-- ==== Sys2Proof/Word.lean ====
section
/-! DEFINITION. The bit widths of the block: one byte (R5, R10) and the 9-bit byte counter (R17). -/

namespace Sys2Proof

/-- The data unit: one 8-bit byte, bit 0 the least significant (R5, R10). -/
abbrev Byte := BitVec 8

/-- The byte counter `rx_count`, 9 bits because it ranges over 0..256 (R17 and the note after R9). -/
abbrev Count := BitVec 9

end Sys2Proof
end

