-- ==== Sys2Proof/Config.lean ====
section
/-! DEFINITION. What is fixed when the block is built (R5, R6, R7, R9), the input ports (R27), and the free values:
what the spec leaves to a draw (R13, R34, R44; 93_implementation_defined.md U1 to U12). -/

namespace Sys2Proof

/-- The six build-time parameters (R6, R7). They never change while the block runs (R26): the model carries them in
State only because `step` takes no other argument (assumption 1). -/
structure Params where
  /-- `P_PRE0`, required value of frame byte 0 -/
  pre0 : Byte
  /-- `P_PRE1`, required value of frame byte 1 -/
  pre1 : Byte
  /-- `P_SEQ`, expected value of frame byte 3 -/
  seq : Byte
  /-- `P_ADDR`, device address, compared with frame byte 4 -/
  addr : Byte
  /-- `P_OPC_GCODE`, the one opcode that routes to the interpreter -/
  opcGcode : Byte
  /-- `P_CAP`, the hard cap on the frame size and the depth of the frame buffer -/
  cap : Nat
  deriving DecidableEq, Repr

/-- R7: the legal range of `P_CAP` is 7 to 256 inclusive. -/
abbrev Params.legal (p : Params) : Prop := 7 ≤ p.cap ∧ p.cap ≤ 256

/-- The input ports sampled at one rising edge of `clk` (R27). The edge itself is one call of `step`. -/
structure Inputs where
  /-- `rst`: synchronous reset, active high -/
  rst : Bool
  /-- `rx_valid`: the transport offers a byte -/
  rxValid : Bool
  /-- `rx_data`: the offered byte -/
  rxData : Byte
  /-- `gc_done`: the interpreter has finished the routed command -/
  gcDone : Bool
  /-- `gc_flags`: bit 0 `wrong_gcode`, bit 1 `bad_coords`, bit 2 `bad_feed` (R63) -/
  gcFlags : BitVec 3
  /-- `pl_idx`: payload byte index of the payload read port -/
  plIdx : Byte
  deriving DecidableEq, Repr, Inhabited

/-- R9: the reference configuration of every example of the spec. -/
def Config.reference : Params :=
  { pre0 := 0xAA, pre1 := 0x55, seq := 0x05, addr := 0x10, opcGcode := 0x01, cap := 256 }

/-- R5: `LEN_MIN`. -/
def Config.lenMin : Nat := 4
/-- R5: `LEN_MAX`. -/
def Config.lenMax : Nat := 253
/-- R5: `CRC_POLY`, x^8+x^5+x^4+1 with the x^8 term implicit. -/
def Config.crcPoly : Byte := 0x31
/-- R5: `CRC_INIT`. -/
def Config.crcInit : Byte := 0x00

/-- Free value: the input ports at edge number `n`, where the state lists none. The external agents' outputs are
free draws at every edge (R44, R104, D26; U6 to U12). -/
opaque Config.freeInputs : Nat → Inputs

/-- Free value: what a buffer entry that nothing has written reads as at edge `n`, address `a` (R13, R21; U1). -/
opaque Config.unwrittenByte : (n a : Nat) → Byte

/-- Free value: `fr_opcode` outside `Complete` (R30, R34; U3). -/
opaque Config.freeFrOpcode : Nat → Byte

/-- Free value: `pl_len` outside `Complete` (R30, R34; U4). -/
opaque Config.freePlLen : Nat → Byte

/-- Free value: `pl_data` outside `Complete` or for an index past the payload (R31, R34; U5). -/
opaque Config.freePlData : Nat → Byte → Byte

end Sys2Proof
end

