-- ==== Sys2Proof/Machine/State.lean ====
section
/-! DEFINITION. The block's state (R15 to R25), the build-time parameters and the input ports it is driven by, the state
after reset (R33, R127), and the reasons a step can stop. -/

namespace Sys2Proof.Machine

/-- The seven receiver states (R16); encoding 7 is no state (R59, X1). -/
inductive RxState where
  | awaitingPreamble | awaitingLength | awaitingSequence | awaitingAddress | accumulating | complete | faulted
  deriving DecidableEq, Repr

/-- The two dispatcher states (R22). -/
inductive DpState where
  | idle | wait
  deriving DecidableEq, Repr

/-- The four kinds of cycle result (R23, R61). -/
inductive ResCode where
  | success | badPackage | unknownCommand | badCommand
  deriving DecidableEq, Repr

/-- The framing faults, fault codes 0 to 5 (R20, R62, R108 to R113). -/
inductive FramingFault where
  | badPreamble | badLength | badSequence | badAddress | badCrc | oversize
  deriving DecidableEq, Repr

/-- The command faults, fault codes 6 to 9 (R62, R114 to R117). -/
inductive CommandFault where
  | unknownOpcode | wrongGcode | badCoords | badFeed
  deriving DecidableEq, Repr

/-- The frame buffer as the entries written since power-up, addresses strictly rising. An entry that is not listed
holds `⊥` (R13, R21). -/
abbrev Memory := List Host.Cell

/-- The machine. The first eleven fields are the block's whole state (R15); the last three are the model's own. -/
structure State where
  /-- `rx_state` (R16) -/
  rxState : RxState
  /-- `rx_count`, 9 bits (R17) -/
  rxCount : Count
  /-- `rx_len` (R18) -/
  rxLen : Byte
  /-- `rx_crc` (R19) -/
  rxCrc : Byte
  /-- `rx_flags`, bit 0 `bad_preamble` .. bit 5 `oversize` (R20) -/
  rxFlags : BitVec 6
  /-- `buf`, `P_CAP` bytes (R21) -/
  buf : Memory
  /-- `dp_state` (R22) -/
  dpState : DpState
  /-- `res_code` (R23) -/
  resCode : ResCode
  /-- `res_flags` (R23, R62) -/
  resFlags : BitVec 10
  /-- `res_valid` (R24) -/
  resValid : Bool
  /-- `gc_start` (R25) -/
  gcStart : Bool
  /-- the build-time parameters, which no step writes (R26; assumption 1) -/
  params : Params
  /-- what the input ports carry at the coming edges, the next edge first; past the end they are free draws
  (R27, R44; assumption 2) -/
  inputs : List Inputs
  /-- how many edges the model has stepped: the index of the free draws (assumption 3) -/
  edge : Nat
  deriving DecidableEq, Repr

/-- Why the machine stops with a fault. The spec's own faults never stop the block (R107): they are states. -/
inductive Fault where
  /-- `MemWrite` at or above `P_CAP`, an address the buffer does not have (R36, R41, X7). Raised by a storing accept
  when `rx_count >= P_CAP`, which no reachable state does. Safe. -/
  | bufferAddress (address : Nat)
  deriving DecidableEq, Repr

/-- Why the machine refuses a step. -/
inductive Refusal where
  /-- an arm of exec with no meaning yet; no arm raises it. Safe. -/
  | notModelled (mnemonic : String)
  /-- R66 selects a dispatcher operation and an accept at one edge; the state (`WAIT` with a receiving `rx_state`) is
  unreachable and 93_implementation_defined.md X8 says to refuse it. Raised by step alone. Safe. -/
  | twoOperations
  /-- the decode met `rx_state` encoding 7 (R59, X1); no State has it, so no step raises it. Safe. -/
  | unusedRxState
  deriving DecidableEq, Repr

/-- The three outcomes of a step of this machine. -/
abbrev Outcome := Host.Outcome State Fault Refusal

/-- R33, R127: the block built with parameters `p`, right after its first reset edge, with nothing driven yet and every
buffer entry `⊥`. -/
def State.resetWith (p : Params) : State :=
  { rxState := .awaitingPreamble
    rxCount := 0
    rxLen := 0x00
    rxCrc := Config.crcInit
    rxFlags := 0
    buf := []
    dpState := .idle
    resCode := .success
    resFlags := 0
    resValid := false
    gcStart := false
    params := p
    inputs := []
    edge := 0 }

/-- The machine right after reset, built with the reference configuration (R9, R33). -/
def State.reset : State := State.resetWith Config.reference

end Sys2Proof.Machine
end

