-- ==== Sys2Proof/Machine/Flags.lean ====
section
/-! DEFINITION. The encodings of the block's enumerations (R59, R60, R61) and every flag computation: the fault codes and
their bits (R62, R63, R108 to R117), and the vectors the results carry. -/

namespace Sys2Proof.Machine

/-- R59: the 3-bit encoding of `rx_state`. -/
def RxState.code : RxState → BitVec 3
  | .awaitingPreamble => 0
  | .awaitingLength => 1
  | .awaitingSequence => 2
  | .awaitingAddress => 3
  | .accumulating => 4
  | .complete => 5
  | .faulted => 6

/-- R59 read backwards; encoding 7 is unused. -/
def RxState.ofCode (c : BitVec 3) : Option RxState :=
  match c.toNat with
  | 0 => some .awaitingPreamble
  | 1 => some .awaitingLength
  | 2 => some .awaitingSequence
  | 3 => some .awaitingAddress
  | 4 => some .accumulating
  | 5 => some .complete
  | 6 => some .faulted
  | _ => none

/-- R16: the first five states are the receiving states. -/
def RxState.receiving : RxState → Bool
  | .awaitingPreamble => true
  | .awaitingLength => true
  | .awaitingSequence => true
  | .awaitingAddress => true
  | .accumulating => true
  | .complete => false
  | .faulted => false

/-- R60: the 1-bit encoding of `dp_state`. -/
def DpState.code : DpState → BitVec 1
  | .idle => 0
  | .wait => 1

/-- R61: the 2-bit encoding of `res_code`. -/
def ResCode.code : ResCode → BitVec 2
  | .success => 0
  | .badPackage => 1
  | .unknownCommand => 2
  | .badCommand => 3

/-- R62, R108 to R113: a framing fault's code, its bit number in the fault vector. -/
def FramingFault.code : FramingFault → Nat
  | .badPreamble => 0
  | .badLength => 1
  | .badSequence => 2
  | .badAddress => 3
  | .badCrc => 4
  | .oversize => 5

/-- R62, R114 to R117: a command fault's code, its bit number in the fault vector. -/
def CommandFault.code : CommandFault → Nat
  | .unknownOpcode => 6
  | .wrongGcode => 7
  | .badCoords => 8
  | .badFeed => 9

/-- The bit a framing fault sets in `rx_flags` (R20). -/
def FramingFault.mask (f : FramingFault) : BitVec 6 := 1#6 <<< f.code

/-- The bit a command fault sets in `res_flags` (R62). -/
def CommandFault.mask (f : CommandFault) : BitVec 10 := 1#10 <<< f.code

/-- R95: `zext_10(rx_flags)`, the fault vector of a `BadPackage` result. -/
def framingVector (f : BitVec 6) : BitVec 10 := f.zeroExtend 10

/-- R99: `{f, 0b0000000}`, the interpreter's flags in `res_flags[9:7]` (R63). -/
def commandVector (f : BitVec 3) : BitVec 10 := f ++ 0#7

end Sys2Proof.Machine
end

