-- ==== Sys2Proof/Machine/Ops.lean ====
section
/-! DEFINITION. The named operations over the buffer and the registers: MemRead and MemWrite (R12), the common writes of
an edge (R101), STORE (R76), raising a framing fault (R12, R122), the return from it, which is the re-arm (R90, R123),
and emitting a result (R12). -/

namespace Sys2Proof.Machine

/-! ## The frame buffer -/

/-- `MemRead(a, 1)` on the listed entries; `none` is `⊥` (R12, R13). -/
def Memory.read : Memory → Nat → Option Byte
  | [], _ => none
  | (k, v) :: m, a => if k = a then some v else Memory.read m a

/-- `MemWrite(a, 1, v)` (R12), keeping the addresses strictly rising. -/
def Memory.write : Memory → Nat → Byte → Memory
  | [], a, v => [(a, v)]
  | (k, w) :: m, a, v =>
    if a < k then (a, v) :: (k, w) :: m
    else if a = k then (a, v) :: m
    else (k, w) :: Memory.write m a v

/-- The canonical form: addresses strictly rising. No entry can equal what an unlisted address reads as, which is `⊥`. -/
abbrev Memory.wf (m : Memory) : Prop := m.Pairwise fun x y => x.1 < y.1

/-- `buf[0 .. n-1]` as a byte sequence, if no entry of it is `⊥`. -/
def Memory.firstBytes (m : Memory) : Nat → Option (List Byte)
  | 0 => some []
  | n + 1 =>
    match m.firstBytes n, m.read n with
    | some l, some b => some (l ++ [b])
    | _, _ => none

/-- A read of the buffer by a step or an output: the entry, or a free draw where it holds `⊥` (R13, U1). -/
def State.readBuf (s : State) (a : Nat) : Byte :=
  match s.buf.read a with
  | some b => b
  | none => Config.unwrittenByte s.edge a

/-! ## The edge -/

/-- What the input ports carry at the next edge (R27): the listed values, else a free draw (R44). -/
def State.ports (s : State) : Inputs :=
  match s.inputs with
  | p :: _ => p
  | [] => Config.freeInputs s.edge

/-- R101: every edge with `rst = 0` first writes `res_valid <- 0` and `gc_start <- 0`. The edge takes its inputs. -/
def State.tick (s : State) : State :=
  { s with resValid := false, gcStart := false, inputs := s.inputs.tail, edge := s.edge + 1 }

/-! ## Receiver writes -/

/-- R76 STORE: `buf[rx_count] <- b` and `rx_count <- rx_count + 1`. -/
def State.storeByte (s : State) (b : Byte) : State :=
  { s with buf := s.buf.write s.rxCount.toNat b, rxCount := s.rxCount + 1 }

/-- `rx_crc <- crc8_step(rx_crc, b)` (R74). -/
def State.foldCrc (s : State) (b : Byte) : State := { s with rxCrc := crc8Step s.rxCrc b }

/-- `rx_len <- b` (R80). -/
def State.setLen (s : State) (b : Byte) : State := { s with rxLen := b }

/-- `rx_state <- x`. -/
def State.enter (s : State) (x : RxState) : State := { s with rxState := x }

/-- TAKING A FRAMING FAULT (R12, R122): `raise Fault(flag)` sets the fault's bit of `rx_flags` and enters `Faulted`.
Nothing else is saved and no mode changes; the dispatcher sees `Faulted` at the next edge. -/
def State.raise (s : State) (f : FramingFault) : State :=
  { s with rxFlags := s.rxFlags ||| f.mask, rxState := .faulted }

/-- RETURN FROM A FAULT (R90, R123): `rearm` returns the receiver to `AwaitingPreamble` with counters and flags
cleared; `buf` is unchanged. -/
def State.rearm (s : State) : State :=
  { s with rxState := .awaitingPreamble, rxCount := 0, rxFlags := 0, rxLen := 0x00, rxCrc := Config.crcInit }

/-- A field check (R79 to R82, R85): go on to `x` when it holds, else raise the field's fault. -/
def State.check (s : State) (ok : Bool) (x : RxState) (f : FramingFault) : State :=
  if ok then s.enter x else s.raise f

/-- A storing accept (R76): the edge's default writes, STORE, and then the operation's other writes `k`. A write at or
above `P_CAP`, which no reachable state makes (R93), faults. -/
def storing (s : State) (b : Byte) (k : State → State) : Outcome :=
  if s.rxCount.toNat < s.params.cap then .next (k (s.tick.storeByte b))
  else .fault (.bufferAddress s.rxCount.toNat)

/-! ## Dispatcher writes -/

/-- `emit Result(code, flags)` (R12): `res_code`, `res_flags` and the `res_valid` pulse. -/
def State.emit (s : State) (code : ResCode) (flags : BitVec 10) : State :=
  { s with resCode := code, resFlags := flags, resValid := true }

/-- R97: `gc_start <- 1` and `dp_state <- WAIT`. -/
def State.startInterpreter (s : State) : State := { s with gcStart := true, dpState := .wait }

/-- `dp_state <- IDLE` (R99). -/
def State.endCommand (s : State) : State := { s with dpState := .idle }

/-- R127: RESET's writes to the block's registers; `buf` is unchanged. -/
def State.clear (s : State) : State :=
  { s.rearm with
    dpState := .idle, resCode := .success, resFlags := 0, resValid := false, gcStart := false }

end Sys2Proof.Machine
end

