-- ==== Sys2Proof/Machine/Operands.lean ====
section
/-! DEFINITION. Where the operations' operands come from: the bytes of the current frame (R51, R54) and the checks the
receiver makes on them (R79 to R82). -/

namespace Sys2Proof.Machine

/-- R51, R54: the opcode is at frame offset 5. -/
def opcodeOffset : Nat := 5

/-- R51, R54: payload byte 0 is at frame offset 6. -/
def payloadOffset : Nat := 6

/-- R54: `opcode = buf[5]`. -/
def State.opcode (s : State) : Byte := s.readBuf opcodeOffset

/-- R53, R54: the payload length `rx_len - 4`, an 8-bit value (R30). -/
def State.payloadLen (s : State) : Byte := s.rxLen - 4

/-- R54: payload byte `i` is `buf[6 + i]`. -/
def State.payloadByte (s : State) (i : Nat) : Byte := s.readBuf (payloadOffset + i)

/-- R79: `s.buf[0] == P_PRE0 and b == P_PRE1`. -/
def State.preambleOk (s : State) (b : Byte) : Bool :=
  s.readBuf 0 == s.params.pre0 && b == s.params.pre1

/-- R80: `4 <= b and b <= 253`, unsigned. -/
def lengthOk (b : Byte) : Bool :=
  decide (Config.lenMin ≤ b.toNat) && decide (b.toNat ≤ Config.lenMax)

/-- R81: `b == P_SEQ`. -/
def State.sequenceOk (s : State) (b : Byte) : Bool := b == s.params.seq

/-- R82: `b == P_ADDR`. -/
def State.addressOk (s : State) (b : Byte) : Bool := b == s.params.addr

/-- R85: `b == s.rx_crc`, all 8 bits. -/
def State.crcOk (s : State) (b : Byte) : Bool := b == s.rxCrc

end Sys2Proof.Machine
end

