-- ==== Sys2Proof/Machine/Dispatcher.lean ====
section
/-! DEFINITION. The dispatcher's operations (R95 to R99), the two opcode classes (R56), RESET (R127) and IDLE (R66). -/

namespace Sys2Proof.Machine

/-- Report a result and re-arm the receiver (R95, R96, R99). -/
def State.finish (s : State) (code : ResCode) (flags : BitVec 10) : State := (s.emit code flags).rearm

/-- R95. -/
def execDispatchFaulted (s : State) : Outcome :=
  .next (s.tick.finish .badPackage (framingVector s.rxFlags))

/-- R96. The opcode's value is recorded nowhere (R114). -/
def execDispatchUnknown (_opc : Byte) (s : State) : Outcome :=
  .next (s.tick.finish .unknownCommand CommandFault.unknownOpcode.mask)

/-- R97. No re-arm: the payload stays readable (R48). -/
def execDispatchGcode (s : State) : Outcome := .next s.tick.startInterpreter

/-- R98. Only the default writes of R101. -/
def execWaitHold (s : State) : Outcome := .next s.tick

/-- R99. -/
def execInterpDone (f : BitVec 3) (s : State) : Outcome :=
  .next (if f = 0 then (s.tick.endCommand).finish .success 0
    else (s.tick.endCommand).finish .badCommand (commandVector f))

/-- R56, R97: a frame of the class GCODE is routed to the interpreter (assumption 9). -/
def execGcode (s : State) : Outcome := .next s.tick.startInterpreter

/-- R56, R96: a frame of the class UNKNOWN yields `UnknownCommand` (assumption 9). -/
def execUnknown (_opc : Byte) (s : State) : Outcome :=
  .next (s.tick.finish .unknownCommand CommandFault.unknownOpcode.mask)

/-- R127. It overrides the default writes with the same values, and the edge takes its inputs. -/
def execReset (s : State) : Outcome := .next s.tick.clear

/-- R66: no operation fires; only the default writes of R101 happen. -/
def execIdle (s : State) : Outcome := .next s.tick

end Sys2Proof.Machine
end

