-- ==== Sys2Proof/Machine/Receiver.lean ====
section
/-! DEFINITION. The byte-accept operations (R78 to R85) and the re-arm (R90). -/

namespace Sys2Proof.Machine

/-- R78. -/
def execAcceptPre0 (b : Byte) (s : State) : Outcome :=
  storing s b fun t => t.foldCrc b

/-- R79. The preamble is checked as a whole at offset 1, against the pre-state's `buf[0]`. -/
def execAcceptPre1 (b : Byte) (s : State) : Outcome :=
  storing s b fun t => (t.foldCrc b).check (s.preambleOk b) .awaitingLength .badPreamble

/-- R80. -/
def execAcceptLen (b : Byte) (s : State) : Outcome :=
  storing s b fun t => ((t.setLen b).foldCrc b).check (lengthOk b) .awaitingSequence .badLength

/-- R81. -/
def execAcceptSeq (b : Byte) (s : State) : Outcome :=
  storing s b fun t => (t.foldCrc b).check (s.sequenceOk b) .awaitingAddress .badSequence

/-- R82. -/
def execAcceptAddr (b : Byte) (s : State) : Outcome :=
  storing s b fun t => (t.foldCrc b).check (s.addressOk b) .accumulating .badAddress

/-- R83. -/
def execAcceptBody (b : Byte) (s : State) : Outcome :=
  storing s b fun t => t.foldCrc b

/-- R84: the byte is consumed and discarded. -/
def execAcceptOversize (_b : Byte) (s : State) : Outcome :=
  .next (s.tick.raise .oversize)

/-- R85: the CRC byte is compared with `rx_crc` and not folded into it. -/
def execAcceptCrc (b : Byte) (s : State) : Outcome :=
  storing s b fun t => t.check (s.crcOk b) .complete .badCrc

/-- R90: the writes of the re-arm. It is part of another operation's edge, so it is no edge of its own: it takes no
input and makes no default write (assumption 10). -/
def execRearm (s : State) : Outcome := .next s.rearm

end Sys2Proof.Machine
end

