-- ==== Sys2Proof/Syntax.lean ====
section
/-! DEFINITION. The operations of the block (R14), one constructor for each row of spec/opcode_table.json. -/

namespace Sys2Proof

/-- The block has no instruction stream; its operations take the place of instructions (R14, R15). An operand is
what the operation's rule lists under "Operands" and the edge supplies: the offered byte `b = in.rx_data`, the
interpreter's flags `f = in.gc_flags`, the opcode byte `buf[5]` of an UNKNOWN frame. -/
inductive Instr where
  /-- GCODE: the opcode class `buf[5] == P_OPC_GCODE` (R56, R97). -/
  | gcode
  /-- UNKNOWN: the opcode class of the 255 other values (R56, R96). -/
  | unknown (opc : Byte)
  /-- RESET (R127). -/
  | reset
  /-- DISPATCH_FAULTED (R95). -/
  | dispatchFaulted
  /-- DISPATCH_UNKNOWN (R96). -/
  | dispatchUnknown (opc : Byte)
  /-- DISPATCH_GCODE (R97). -/
  | dispatchGcode
  /-- INTERP_DONE (R99). -/
  | interpDone (f : BitVec 3)
  /-- WAIT_HOLD (R98). -/
  | waitHold
  /-- ACCEPT_PRE0 (R78). -/
  | acceptPre0 (b : Byte)
  /-- ACCEPT_PRE1 (R79). -/
  | acceptPre1 (b : Byte)
  /-- ACCEPT_LEN (R80). -/
  | acceptLen (b : Byte)
  /-- ACCEPT_SEQ (R81). -/
  | acceptSeq (b : Byte)
  /-- ACCEPT_ADDR (R82). -/
  | acceptAddr (b : Byte)
  /-- ACCEPT_OVERSIZE (R84). -/
  | acceptOversize (b : Byte)
  /-- ACCEPT_CRC (R85). -/
  | acceptCrc (b : Byte)
  /-- ACCEPT_BODY (R83). -/
  | acceptBody (b : Byte)
  /-- REARM, a side effect of DISPATCH_FAULTED, DISPATCH_UNKNOWN and INTERP_DONE (R90). -/
  | rearm
  /-- IDLE: the edge at which no operation fires (R66). -/
  | idle
  deriving DecidableEq, Repr

end Sys2Proof
end

