-- ==== Sys2Proof/Machine/Dispatch.lean ====
section
/-! DEFINITION. One meaning for each operation of the opcode table. -/

namespace Sys2Proof.Machine

def exec (i : Instr) (s : State) : Host.Outcome State Fault Refusal :=
  match i with
  | .gcode => Sys2Proof.Machine.execGcode s
  | .unknown opc => Sys2Proof.Machine.execUnknown opc s
  | .reset => Sys2Proof.Machine.execReset s
  | .dispatchFaulted => Sys2Proof.Machine.execDispatchFaulted s
  | .dispatchUnknown opc => Sys2Proof.Machine.execDispatchUnknown opc s
  | .dispatchGcode => Sys2Proof.Machine.execDispatchGcode s
  | .interpDone f => Sys2Proof.Machine.execInterpDone f s
  | .waitHold => Sys2Proof.Machine.execWaitHold s
  | .acceptPre0 b => Sys2Proof.Machine.execAcceptPre0 b s
  | .acceptPre1 b => Sys2Proof.Machine.execAcceptPre1 b s
  | .acceptLen b => Sys2Proof.Machine.execAcceptLen b s
  | .acceptSeq b => Sys2Proof.Machine.execAcceptSeq b s
  | .acceptAddr b => Sys2Proof.Machine.execAcceptAddr b s
  | .acceptOversize b => Sys2Proof.Machine.execAcceptOversize b s
  | .acceptCrc b => Sys2Proof.Machine.execAcceptCrc b s
  | .acceptBody b => Sys2Proof.Machine.execAcceptBody b s
  | .rearm => Sys2Proof.Machine.execRearm s
  | .idle => Sys2Proof.Machine.execIdle s

end Sys2Proof.Machine
end

