-- ==== Sys2Proof/WellFormed.lean ====
section
/-! DEFINITION. Which operations the encodings admit: an UNKNOWN opcode is any value but `P_OPC_GCODE` (R56). -/

namespace Sys2Proof

/-- R56: the UNKNOWN class and its operation stand for the 255 opcodes other than `P_OPC_GCODE`. Every other operand
is admitted at every value: no opcode or byte value is reserved (R56, R78, R83). -/
def Instr.wellFormed (p : Params) : Instr → Bool
  | .unknown opc => opc != p.opcGcode
  | .dispatchUnknown opc => opc != p.opcGcode
  | .gcode => true
  | .reset => true
  | .dispatchFaulted => true
  | .dispatchGcode => true
  | .interpDone _ => true
  | .waitHold => true
  | .acceptPre0 _ => true
  | .acceptPre1 _ => true
  | .acceptLen _ => true
  | .acceptSeq _ => true
  | .acceptAddr _ => true
  | .acceptOversize _ => true
  | .acceptCrc _ => true
  | .acceptBody _ => true
  | .rearm => true
  | .idle => true

end Sys2Proof
end

