-- ==== Sys2Proof/Decode.lean ====
section
/-! DEFINITION. The operation decode of one edge (R66) in the form of spec/opcode_table.json: mask and match patterns
over the 8-bit selector word (R143) with the extra conditions of each row, the opcode demultiplexer (R56), and the
encoder written from the same table. -/

namespace Sys2Proof

/-- What the decode reads at one edge: the selector word of R143, the quantities its rows' extra conditions test
(`rx_count`, `rx_len`, `buf[5]`), and the operands `in.rx_data` and `in.gc_flags`. -/
structure EdgeWord where
  /-- `SEL[7:0]` (R143) -/
  sel : Byte
  /-- `in.rx_data` -/
  rxData : Byte
  /-- `in.gc_flags` -/
  gcFlags : BitVec 3
  /-- `s.rx_count` -/
  rxCount : Count
  /-- `s.rx_len` -/
  rxLen : Byte
  /-- `s.buf[5]` -/
  opcode : Byte
  deriving DecidableEq, Repr

/-- The two formats of the table's encoded rows: an opcode byte at frame offset 5, or an operation at an edge. -/
inductive CodeWord where
  /-- the byte the demultiplexer decodes (R56) -/
  | opcode (b : Byte)
  /-- what the step decodes at an edge (R66, R143) -/
  | edge (e : EdgeWord)
  deriving DecidableEq, Repr

/-- Why the decode gives no operation. -/
inductive DecodeError where
  /-- no row matches and `SEL[5:3]` is 7, the encoding that R59 leaves unused (X1) -/
  | unusedRxState
  deriving DecidableEq, Repr

/-- R143: a row matches when `(SEL & mask) == match`. -/
structure SelRow where
  /-- the bits the row fixes -/
  mask : Byte
  /-- their values (the table's `match`) -/
  pattern : Byte
  deriving DecidableEq, Repr

/-- R143: `(SEL & mask) == match`. -/
def SelRow.hit (r : SelRow) (sel : Byte) : Bool := (sel &&& r.mask) == r.pattern

/-- `1xxxxxxx` (R127). -/
def rowReset : SelRow := ⟨0x80, 0x80⟩
/-- `00110xxx` (R95). -/
def rowDispatchFaulted : SelRow := ⟨0xF8, 0x30⟩
/-- `00101xxx`: DISPATCH_UNKNOWN and DISPATCH_GCODE (R96, R97). -/
def rowDispatchComplete : SelRow := ⟨0xF8, 0x28⟩
/-- `01xxxxx1` (R99). -/
def rowInterpDone : SelRow := ⟨0xC1, 0x41⟩
/-- `01xxxxx0` (R98). -/
def rowWaitHold : SelRow := ⟨0xC1, 0x40⟩
/-- `0x00011x`: ACCEPT_PRE0 and ACCEPT_PRE1 (R78, R79). -/
def rowAcceptPreamble : SelRow := ⟨0xBE, 0x06⟩
/-- `0x00111x` (R80). -/
def rowAcceptLen : SelRow := ⟨0xBE, 0x0E⟩
/-- `0x01011x` (R81). -/
def rowAcceptSeq : SelRow := ⟨0xBE, 0x16⟩
/-- `0x01111x` (R82). -/
def rowAcceptAddr : SelRow := ⟨0xBE, 0x1E⟩
/-- `0x10011x`: ACCEPT_OVERSIZE, ACCEPT_CRC and ACCEPT_BODY (R83, R84, R85). -/
def rowAcceptAccumulating : SelRow := ⟨0xBE, 0x26⟩

/-- The table's row of each operation; the opcode classes, REARM and IDLE have no selector pattern (R143). -/
def Instr.row : Instr → Option SelRow
  | .gcode => none
  | .unknown _ => none
  | .reset => some rowReset
  | .dispatchFaulted => some rowDispatchFaulted
  | .dispatchUnknown _ => some rowDispatchComplete
  | .dispatchGcode => some rowDispatchComplete
  | .interpDone _ => some rowInterpDone
  | .waitHold => some rowWaitHold
  | .acceptPre0 _ => some rowAcceptPreamble
  | .acceptPre1 _ => some rowAcceptPreamble
  | .acceptLen _ => some rowAcceptLen
  | .acceptSeq _ => some rowAcceptSeq
  | .acceptAddr _ => some rowAcceptAddr
  | .acceptOversize _ => some rowAcceptAccumulating
  | .acceptCrc _ => some rowAcceptAccumulating
  | .acceptBody _ => some rowAcceptAccumulating
  | .rearm => none
  | .idle => none

/-- R56: the opcode byte decodes into the class GCODE or the class UNKNOWN. -/
def demux (p : Params) (opc : Byte) : Instr :=
  if opc = p.opcGcode then .gcode else .unknown opc

/-- R66, dispatcher part: the class of a `Complete` frame's opcode picks the dispatcher's operation. -/
def dispatchOf (p : Params) (opc : Byte) : Instr :=
  if demux p opc = .gcode then .dispatchGcode else .dispatchUnknown opc

/-- R66, R143: the dispatcher rows, in the table's order. -/
def dispatcherRow (p : Params) (e : EdgeWord) : Option Instr :=
  if rowDispatchFaulted.hit e.sel then some .dispatchFaulted
  else if rowDispatchComplete.hit e.sel then some (dispatchOf p e.opcode)
  else if rowInterpDone.hit e.sel then some (.interpDone e.gcFlags)
  else if rowWaitHold.hit e.sel then some .waitHold
  else none

/-- R66, R143: the receiver rows, in the table's order. The sums are exact (R10). -/
def receiverRow (p : Params) (e : EdgeWord) : Option Instr :=
  if rowAcceptPreamble.hit e.sel && e.rxCount == 0 then some (.acceptPre0 e.rxData)
  else if rowAcceptPreamble.hit e.sel && e.rxCount == 1 then some (.acceptPre1 e.rxData)
  else if rowAcceptLen.hit e.sel then some (.acceptLen e.rxData)
  else if rowAcceptSeq.hit e.sel then some (.acceptSeq e.rxData)
  else if rowAcceptAddr.hit e.sel then some (.acceptAddr e.rxData)
  else if rowAcceptAccumulating.hit e.sel then
    if p.cap ≤ e.rxCount.toNat then some (.acceptOversize e.rxData)
    else if e.rxCount.toNat + 1 = e.rxLen.toNat + 3 then some (.acceptCrc e.rxData)
    else some (.acceptBody e.rxData)
  else none

/-- R143: rows are tried in the order RESET, dispatcher, receiver; IDLE is the case where no row matches. -/
def decodeEdge (p : Params) (e : EdgeWord) : Except DecodeError Instr :=
  if rowReset.hit e.sel then .ok .reset
  else match dispatcherRow p e with
    | some i => .ok i
    | none => match receiverRow p e with
      | some i => .ok i
      | none => if e.sel.extractLsb' 3 3 = 7#3 then .error .unusedRxState else .ok .idle

/-- Whether R66 would fire an operation of both parts at this edge, which no reachable state does (R103, X8). -/
def twoParts (p : Params) (e : EdgeWord) : Bool :=
  !rowReset.hit e.sel && (dispatcherRow p e).isSome && (receiverRow p e).isSome

/-- The decoder: the demultiplexer on an opcode byte (R56), the operation decode on an edge (R66). -/
def decode (p : Params) : CodeWord → Except DecodeError Instr
  | .opcode b => .ok (demux p b)
  | .edge e => decodeEdge p e

/-! ## The encoder -/

/-- An edge of an in-protocol block with the given selector word; the operand fields are zero unless set. -/
def EdgeWord.blank (sel : Byte) : EdgeWord :=
  { sel := sel, rxData := 0, gcFlags := 0, rxCount := 0, rxLen := 0, opcode := 0 }

/-- An accept edge: selector, offered byte, and the counter and length its row tests. -/
def EdgeWord.accept (sel b : Byte) (count : Count) (len : Byte) : EdgeWord :=
  { EdgeWord.blank sel with rxData := b, rxCount := count, rxLen := len }

/-- The word of an operation, from the table's rows: the fixed bits, the operands, and for each extra condition the
first value a frame of `L = 4` meets it with. REARM is a side effect and has no encoding (R143). WAIT rows carry
`rx_state = Complete` (R103); IDLE is an edge of `AwaitingPreamble` with no byte offered. -/
def encode (p : Params) : Instr → Option CodeWord
  | .gcode => some (.opcode p.opcGcode)
  | .unknown opc => some (.opcode opc)
  | .reset => some (.edge (.blank 0x80))
  | .dispatchFaulted => some (.edge (.blank 0x30))
  | .dispatchUnknown opc => some (.edge { EdgeWord.blank 0x28 with opcode := opc })
  | .dispatchGcode => some (.edge { EdgeWord.blank 0x28 with opcode := p.opcGcode })
  | .interpDone f => some (.edge { EdgeWord.blank 0x69 with gcFlags := f })
  | .waitHold => some (.edge (.blank 0x68))
  | .acceptPre0 b => some (.edge (.accept 0x06 b 0 0))
  | .acceptPre1 b => some (.edge (.accept 0x06 b 1 0))
  | .acceptLen b => some (.edge (.accept 0x0E b 2 0))
  | .acceptSeq b => some (.edge (.accept 0x16 b 3 4))
  | .acceptAddr b => some (.edge (.accept 0x1E b 4 4))
  | .acceptOversize b => some (.edge (.accept 0x26 b (BitVec.ofNat 9 p.cap) 253))
  | .acceptCrc b => some (.edge (.accept 0x26 b 6 4))
  | .acceptBody b => some (.edge (.accept 0x26 b 5 4))
  | .rearm => none
  | .idle => some (.edge (.blank 0x02))

/-! ## The table's words -/

/-- The table's word as the fields of an edge: SEL in bits 7..0, then (assumption 12) `rx_data` 15..8, `gc_flags`
18..16, `rx_count` 32..24, `rx_len` 47..40, `buf[5]` 55..48. The table gives bits 7..0 only. -/
def EdgeWord.ofNat (w : Nat) : EdgeWord :=
  { sel := BitVec.ofNat 8 w
    rxData := BitVec.ofNat 8 (w / 2 ^ 8)
    gcFlags := BitVec.ofNat 3 (w / 2 ^ 16)
    rxCount := BitVec.ofNat 9 (w / 2 ^ 24)
    rxLen := BitVec.ofNat 8 (w / 2 ^ 40)
    opcode := BitVec.ofNat 8 (w / 2 ^ 48) }

/-- Whether some operation row matches the selector word. -/
def selectorHit (sel : Byte) : Bool :=
  [rowReset, rowDispatchFaulted, rowDispatchComplete, rowInterpDone, rowWaitHold, rowAcceptPreamble, rowAcceptLen,
    rowAcceptSeq, rowAcceptAddr, rowAcceptAccumulating].any fun r => r.hit sel

/-- Whether an edge can form this selector word: `SEL[1]` is `rx_ready`, which R28 computes from `SEL[7]` and
`SEL[5:3]`. -/
def selectorPossible (sel : Byte) : Bool :=
  sel.getLsbD 1 == (!sel.getLsbD 7 && decide ((sel.extractLsb' 3 3).toNat ≤ 4))

/-- Which format an 8-bit word of the table has: a word that matches an operation row, or that an edge can form, is a
selector word; any other is an opcode byte (assumption 12). -/
def CodeWord.ofTable (nbits w : Nat) : CodeWord :=
  let e := EdgeWord.ofNat (w % 2 ^ nbits)
  if selectorHit e.sel || selectorPossible e.sel then .edge e else .opcode e.sel

/-- The instruction the decoder reads from a word of the table, in the reference configuration, whose `P_OPC_GCODE`
the table's GCODE row is written for (R9, R143). -/
def decodeTableWord (nbits w : Nat) : Option Instr :=
  (decode Config.reference (CodeWord.ofTable nbits w)).toOption

end Sys2Proof
end

