-- ==== Sys2Proof/Machine/Outputs.lean ====
section
/-! DEFINITION. The combinational output ports (R28 to R32). An output the spec calls unspecified is a free draw (R34). -/

namespace Sys2Proof.Machine

/-- R28: `rx_ready = ~in.rst & (rx_state is a receiving state)`. -/
def State.rxReady (s : State) : Bool := !s.ports.rst && s.rxState.receiving

/-- R77: a byte is accepted at the next edge. -/
def State.accepts (s : State) : Bool := !s.ports.rst && s.ports.rxValid && s.rxReady

/-- R29: `fr_state[2:0]`. -/
def State.frState (s : State) : BitVec 3 := s.rxState.code

/-- R29: `fr_complete`. -/
def State.frComplete (s : State) : Bool := s.rxState == .complete

/-- R29: `fr_faulted`. -/
def State.frFaulted (s : State) : Bool := s.rxState == .faulted

/-- R29: `fr_flags[5:0]`. -/
def State.frFlags (s : State) : BitVec 6 := s.rxFlags

/-- R30: `fr_opcode[7:0]`, unspecified outside `Complete`. -/
def State.frOpcode (s : State) : Byte :=
  if s.rxState = .complete then s.opcode else Config.freeFrOpcode s.edge

/-- R30: `fr_len[7:0]`. -/
def State.frLen (s : State) : Byte := s.rxLen

/-- R30: `pl_len[7:0]`, unspecified outside `Complete`. -/
def State.plLen (s : State) : Byte :=
  if s.rxState = .complete then s.payloadLen else Config.freePlLen s.edge

/-- R31: `pl_data[7:0]` for the index `idx` on `pl_idx`, unspecified outside `Complete` or past the payload. The index
may change within the interval; the read has no side effect (R43). -/
def State.plDataAt (s : State) (idx : Byte) : Byte :=
  if s.rxState = .complete ∧ idx.toNat + 4 < s.rxLen.toNat then s.payloadByte idx.toNat
  else Config.freePlData s.edge idx

/-- R31: `pl_data[7:0]` for what the port `pl_idx` carries. -/
def State.plData (s : State) : Byte := s.plDataAt s.ports.plIdx

/-- R32: `gc_start`. -/
def State.gcStartOut (s : State) : Bool := s.gcStart

/-- R32: `res_valid`. -/
def State.resValidOut (s : State) : Bool := s.resValid

/-- R32: `res_code[1:0]`. -/
def State.resCodeOut (s : State) : BitVec 2 := s.resCode.code

/-- R32: `res_flags[9:0]`. -/
def State.resFlagsOut (s : State) : BitVec 10 := s.resFlags

end Sys2Proof.Machine
end

