-- ==== Sys2Proof/Machine/Fetch.lean ====
section
/-! DEFINITION. What the step decodes at an edge: the selector word and operands formed from the pre-state and the inputs
(R143), and how a word of the opcode table is placed so that the next edge forms it. -/

namespace Sys2Proof.Machine

/-- R143: `SEL[7] = rst`, `SEL[6] = dp_state`, `SEL[5:3] = rx_state`, `SEL[2] = rx_valid`, `SEL[1] = rx_ready`,
`SEL[0] = gc_done`. -/
def State.sel (s : State) : Byte :=
  BitVec.ofBool s.ports.rst ++ s.dpState.code ++ s.rxState.code ++ BitVec.ofBool s.ports.rxValid
    ++ BitVec.ofBool s.rxReady ++ BitVec.ofBool s.ports.gcDone

/-- The selector word with the quantities the rows' conditions test and the operands (R66, R143). -/
def State.edgeWord (s : State) : EdgeWord :=
  { sel := s.sel
    rxData := s.ports.rxData
    gcFlags := s.ports.gcFlags
    rxCount := s.rxCount
    rxLen := s.rxLen
    opcode := s.opcode }

/-- The operation of the next edge (R66), or why there is none: two operations at once in an unreachable state (X8). -/
def State.fetch (s : State) : Except Refusal Instr :=
  if twoParts s.params s.edgeWord then .error .twoOperations
  else match decode s.params (.edge s.edgeWord) with
    | .ok i => .ok i
    | .error .unusedRxState => .error .unusedRxState

/-! ## Placing a word of the table -/

/-- Drive the input ports with `p` at the next edge. -/
def State.drive (s : State) (p : Inputs) : State := { s with inputs := p :: s.inputs }

/-- An edge's inputs with no reset, no byte offered and no `gc_done`. -/
def quietInputs : Inputs :=
  { rst := false, rxValid := false, rxData := 0, gcDone := false, gcFlags := 0, plIdx := 0 }

/-- A settled frame with opcode `opc`, waiting for the dispatcher (R94). -/
def State.placeOpcode (s : State) (opc : Byte) : State :=
  { (s.drive quietInputs) with
    dpState := .idle, rxState := .complete, buf := s.buf.write opcodeOffset opc }

/-- The inputs that an edge word asks for. -/
def inputsOf (e : EdgeWord) : Inputs :=
  { rst := e.sel.getLsbD 7, rxValid := e.sel.getLsbD 2, rxData := e.rxData, gcDone := e.sel.getLsbD 0,
    gcFlags := e.gcFlags, plIdx := 0 }

/-- The edge word's part in the registers. A RESET edge needs none of them; a WAIT edge has the receiver in `Complete`,
the only `rx_state` that `WAIT` goes with (R103); an edge of `Complete` has the opcode in `buf[5]`. -/
def State.placeEdge (s : State) (e : EdgeWord) : State :=
  let t := s.drive (inputsOf e)
  if e.sel.getLsbD 7 then t
  else if e.sel.getLsbD 6 then { t with dpState := .wait, rxState := .complete }
  else
    match RxState.ofCode (e.sel.extractLsb' 3 3) with
    | none => { t with dpState := .idle }
    | some .complete => { t with dpState := .idle, rxState := .complete, buf := s.buf.write opcodeOffset e.opcode }
    | some x => { t with dpState := .idle, rxState := x, rxCount := e.rxCount, rxLen := e.rxLen }

/-- Place a code word where the next step decodes it (assumption 14). -/
def State.place (s : State) : CodeWord → State
  | .opcode b => s.placeOpcode b
  | .edge e => s.placeEdge e

end Sys2Proof.Machine
end

