-- ==== Sys2Proof/Machine/Step.lean ====
section
/-! DEFINITION. One rising edge of `clk` (R11, R66): decode the pre-state and the inputs, run the operation. -/

namespace Sys2Proof.Machine

/-- One edge (R66). -/
def step (s : State) : Host.Outcome State Fault Refusal :=
  match s.fetch with
  | .ok i => exec i s
  | .error r => .refused r

/-- The state with a word of the opcode table placed where the next step decodes it (assumption 14). -/
def State.withFetchWord (s : State) (nbits w : Nat) : State := s.place (CodeWord.ofTable nbits w)

end Sys2Proof.Machine
end

