-- ==== Sys2Proof/Safety.lean ====
section
/-! DEFINITION. The words that claims about the block use: the invariant of every reachable state (R88, R92, R93, R103,
R105, R108 to R113), the step's selection read straight from R66, legal frames (R51), the external agents' protocols
(R77, R104), and what an operation leaves unchanged. -/

namespace Sys2Proof.Machine

/-! ## Frames of an operation -/

/-- Every edge takes its inputs and changes no build-time parameter (R26, R27). -/
abbrev State.EdgePassed (s t : State) : Prop :=
  t.params = s.params ∧ t.inputs = s.inputs.tail ∧ t.edge = s.edge + 1

/-- No byte of the buffer changed. -/
abbrev State.SameBuffer (s t : State) : Prop := ∀ a, t.buf.read a = s.buf.read a

/-- Byte `b` was stored at address `a` and every other address reads as before. -/
abbrev State.StoredAt (s t : State) (a : Nat) (b : Byte) : Prop :=
  ∀ x, t.buf.read x = if x = a then some b else s.buf.read x

/-- STORE (R76): `buf[rx_count] <- b` and `rx_count <- rx_count + 1`. -/
abbrev State.Stored (s t : State) (b : Byte) : Prop :=
  s.StoredAt t s.rxCount.toNat b ∧ t.rxCount.toNat = s.rxCount.toNat + 1

/-- The five receiver registers are unchanged. -/
abbrev State.SameReceiver (s t : State) : Prop :=
  t.rxState = s.rxState ∧ t.rxCount = s.rxCount ∧ t.rxLen = s.rxLen ∧ t.rxCrc = s.rxCrc ∧ t.rxFlags = s.rxFlags

/-- The dispatcher's state and the held result are unchanged. -/
abbrev State.SameDispatcher (s t : State) : Prop :=
  t.dpState = s.dpState ∧ t.resCode = s.resCode ∧ t.resFlags = s.resFlags

/-- The two pulses are at their default (R101). -/
abbrev State.PulsesLow (t : State) : Prop := t.resValid = false ∧ t.gcStart = false

/-- The receiver as the re-arm leaves it (R90). -/
abbrev State.Rearmed (t : State) : Prop :=
  t.rxState = .awaitingPreamble ∧ t.rxCount = 0 ∧ t.rxLen = 0x00 ∧ t.rxCrc = 0x00 ∧ t.rxFlags = 0

/-- A result was emitted (R12). -/
abbrev State.Emitted (t : State) (code : ResCode) (flags : BitVec 10) : Prop :=
  t.resCode = code ∧ t.resFlags = flags ∧ t.resValid = true

/-- Either the check held and the receiver went on, or its fault was raised: the flag with the value `bit` is set in
`rx_flags` (R79 to R82, R85, R122). -/
abbrev State.Checked (s t : State) (ok : Prop) (x : RxState) (bit : BitVec 6) : Prop :=
  (ok → t.rxState = x ∧ t.rxFlags = s.rxFlags) ∧
    (¬ ok → t.rxState = .faulted ∧ t.rxFlags = s.rxFlags ||| bit)

/-! ## The selection, read straight from R66 -/

/-- R66, the dispatcher part. -/
def State.dispatcherOp (s : State) : Option Instr :=
  if s.dpState = .idle ∧ s.rxState = .faulted then some .dispatchFaulted
  else if s.dpState = .idle ∧ s.rxState = .complete ∧ s.opcode ≠ s.params.opcGcode then
    some (.dispatchUnknown s.opcode)
  else if s.dpState = .idle ∧ s.rxState = .complete ∧ s.opcode = s.params.opcGcode then some .dispatchGcode
  else if s.dpState = .wait ∧ s.ports.gcDone = true then some (.interpDone s.ports.gcFlags)
  else if s.dpState = .wait then some .waitHold
  else none

/-- R66, the receiver part, for an accepted byte. -/
def State.receiverOp (s : State) : Option Instr :=
  if s.rxState = .awaitingPreamble ∧ s.rxCount = 0 then some (.acceptPre0 s.ports.rxData)
  else if s.rxState = .awaitingPreamble ∧ s.rxCount = 1 then some (.acceptPre1 s.ports.rxData)
  else if s.rxState = .awaitingLength then some (.acceptLen s.ports.rxData)
  else if s.rxState = .awaitingSequence then some (.acceptSeq s.ports.rxData)
  else if s.rxState = .awaitingAddress then some (.acceptAddr s.ports.rxData)
  else if s.rxState = .accumulating ∧ s.params.cap ≤ s.rxCount.toNat then some (.acceptOversize s.ports.rxData)
  else if s.rxState = .accumulating ∧ s.rxCount.toNat + 1 = s.rxLen.toNat + 3 then some (.acceptCrc s.ports.rxData)
  else if s.rxState = .accumulating then some (.acceptBody s.ports.rxData)
  else none

/-- R66: every operation the edge selects, IDLE if none. -/
def State.rule66 (s : State) : List Instr :=
  if s.ports.rst = true then [.reset]
  else
    match s.dispatcherOp.toList ++ (if s.ports.rxValid = true ∧ s.rxReady = true then s.receiverOp.toList else []) with
    | [] => [.idle]
    | l => l

/-- The edge emits a result: DISPATCH_FAULTED, DISPATCH_UNKNOWN or INTERP_DONE is selected (R95, R96, R99). -/
def State.EmitsResult (s : State) : Prop :=
  s.ports.rst = false ∧
    ((s.dpState = .idle ∧ s.rxState = .faulted) ∨
      (s.dpState = .idle ∧ s.rxState = .complete ∧ s.opcode ≠ s.params.opcGcode) ∨
      (s.dpState = .wait ∧ s.ports.gcDone = true))

/-- The edge routes a frame to the interpreter: DISPATCH_GCODE is selected (R97). -/
def State.RoutesFrame (s : State) : Prop :=
  s.ports.rst = false ∧ s.dpState = .idle ∧ s.rxState = .complete ∧ s.opcode = s.params.opcGcode

/-! ## The invariant -/

/-- `4 <= L <= 253` (R51, R80). -/
abbrev lengthLegal (len : Byte) : Prop := 4 ≤ len.toNat ∧ len.toNat ≤ 253

/-- The `Faulted` row of R93: exactly one flag, with the count and length that its fault leaves (R108 to R113). -/
def State.FaultShape (s : State) : Prop :=
  (s.rxFlags = FramingFault.badPreamble.mask ∧ s.rxCount.toNat = 2 ∧ s.rxLen = 0) ∨
  (s.rxFlags = FramingFault.badLength.mask ∧ s.rxCount.toNat = 3 ∧ ¬ lengthLegal s.rxLen) ∨
  (s.rxFlags = FramingFault.badSequence.mask ∧ s.rxCount.toNat = 4 ∧ lengthLegal s.rxLen) ∨
  (s.rxFlags = FramingFault.badAddress.mask ∧ s.rxCount.toNat = 5 ∧ lengthLegal s.rxLen) ∨
  (s.rxFlags = FramingFault.badCrc.mask ∧ s.rxCount.toNat = s.rxLen.toNat + 3 ∧ lengthLegal s.rxLen) ∨
  (s.rxFlags = FramingFault.oversize.mask ∧ s.rxCount.toNat = s.params.cap ∧ lengthLegal s.rxLen)

/-- The table of R93. -/
def State.ReceiverShape (s : State) : Prop :=
  match s.rxState with
  | .awaitingPreamble => s.rxCount.toNat ≤ 1 ∧ s.rxLen = 0 ∧ s.rxFlags = 0
  | .awaitingLength => s.rxCount.toNat = 2 ∧ s.rxLen = 0 ∧ s.rxFlags = 0
  | .awaitingSequence => s.rxCount.toNat = 3 ∧ lengthLegal s.rxLen ∧ s.rxFlags = 0
  | .awaitingAddress => s.rxCount.toNat = 4 ∧ lengthLegal s.rxLen ∧ s.rxFlags = 0
  | .accumulating =>
    5 ≤ s.rxCount.toNat ∧ s.rxCount.toNat ≤ min (s.rxLen.toNat + 2) s.params.cap ∧ lengthLegal s.rxLen ∧ s.rxFlags = 0
  | .complete => s.rxCount.toNat = s.rxLen.toNat + 3 ∧ lengthLegal s.rxLen ∧ s.rxFlags = 0
  | .faulted => s.FaultShape

/-- The buffer: canonical, inside `P_CAP`, and no `⊥` below `rx_count <= P_CAP` (R36, R93). -/
def State.BufferOk (s : State) : Prop :=
  s.buf.wf ∧ (∀ e ∈ s.buf, e.1 < s.params.cap) ∧ s.rxCount.toNat ≤ s.params.cap ∧
    ∀ i < s.rxCount.toNat, (s.buf.read i).isSome

/-- Each stored header field has its legal value, except the field whose fault is recorded (R51, R57, R79 to R82). -/
def State.HeaderOk (s : State) : Prop :=
  (2 ≤ s.rxCount.toNat → s.rxFlags ≠ FramingFault.badPreamble.mask →
    s.buf.read 0 = some s.params.pre0 ∧ s.buf.read 1 = some s.params.pre1) ∧
  (3 ≤ s.rxCount.toNat → s.buf.read 2 = some s.rxLen) ∧
  (4 ≤ s.rxCount.toNat → s.rxFlags ≠ FramingFault.badSequence.mask → s.buf.read 3 = some s.params.seq) ∧
  (5 ≤ s.rxCount.toNat → s.rxFlags ≠ FramingFault.badAddress.mask → s.buf.read 4 = some s.params.addr)

/-- How many of the stored bytes `rx_crc` covers: all but the CRC byte (R75, R88). -/
def State.crcCovers (s : State) : Nat :=
  if s.rxState = .complete ∨ (s.rxState = .faulted ∧ s.rxFlags = FramingFault.badCrc.mask) then s.rxCount.toNat - 1
  else s.rxCount.toNat

/-- R88: `rx_crc` is the CRC-8 of the bytes it covers. -/
def State.RunningCrc (s : State) : Prop := (s.buf.firstBytes s.crcCovers).map crc8 = some s.rxCrc

/-- The last byte of a settled frame against `rx_crc`: equal in `Complete`, different after `bad_crc` (R85, R112). -/
def State.TrailerOk (s : State) : Prop :=
  (s.rxState = .complete → s.buf.read (s.rxLen.toNat + 2) = some s.rxCrc) ∧
  (s.rxState = .faulted → s.rxFlags = FramingFault.badCrc.mask →
    ∃ b, s.buf.read (s.rxLen.toNat + 2) = some b ∧ b ≠ s.rxCrc)

/-- R103: a command is with the interpreter only for a `Complete` frame with opcode `P_OPC_GCODE`. -/
def State.DispatcherOk (s : State) : Prop :=
  s.dpState = .wait → s.rxState = .complete ∧ s.buf.read 5 = some s.params.opcGcode

/-- The held result is one that some operation emits: no framing bit beside a command bit (R95, R96, R99, R105, X3). -/
def State.ResultOk (s : State) : Prop :=
  match s.resCode with
  | .success => s.resFlags = 0
  | .badPackage => ∃ f : FramingFault, s.resFlags = framingVector f.mask
  | .unknownCommand => s.resFlags = CommandFault.unknownOpcode.mask
  | .badCommand => ∃ g : BitVec 3, g ≠ 0 ∧ s.resFlags = commandVector g

/-- A pulse shows what has just happened: the receiver re-armed by a result, or a frame routed (R101, R103). -/
def State.PulsesOk (s : State) : Prop :=
  (s.resValid = true → s.rxState = .awaitingPreamble ∧ s.rxCount = 0 ∧ s.dpState = .idle) ∧
  (s.gcStart = true → s.dpState = .wait)

/-- What holds in every state reachable from reset, for every legal configuration. -/
structure State.Inv (s : State) : Prop where
  legal : s.params.legal
  receiver : s.ReceiverShape
  buffer : s.BufferOk
  header : s.HeaderOk
  crc : s.RunningCrc
  trailer : s.TrailerOk
  dispatcher : s.DispatcherOk
  result : s.ResultOk
  pulses : s.PulsesOk

/-- The states reachable from reset, whatever the agents drive (R44): any legal parameters, any inputs, any draws. -/
inductive Reachable : State → Prop where
  | reset (p : Params) (hp : p.legal) (inputs : List Inputs) (edge : Nat) :
      Reachable { State.resetWith p with inputs := inputs, edge := edge }
  | step (s t : State) (hs : Reachable s) (h : Sys2Proof.Machine.step s = .next t) : Reachable t

/-! ## Frames on the wire -/

/-- R51: the layout and the constraints of a legal frame no longer than `P_CAP`. -/
def LegalFrame (p : Params) (f : List Byte) : Prop :=
  f[0]? = some p.pre0 ∧ f[1]? = some p.pre1 ∧
  (∃ len : Byte, f[2]? = some len ∧ lengthLegal len ∧ f.length = len.toNat + 3) ∧
  f[3]? = some p.seq ∧ f[4]? = some p.addr ∧
  f.getLast? = some (crc8 f.dropLast) ∧ f.length ≤ p.cap

/-- The bytes of a frame before its CRC byte (R51, R52). -/
def frameBody (p : Params) (opc : Byte) (payload : List Byte) : List Byte :=
  [p.pre0, p.pre1, BitVec.ofNat 8 (payload.length + 4), p.seq, p.addr, opc] ++ payload

/-- The inputs offer the bytes back to back, with no reset (R141). -/
def Offers (inputs : List Inputs) (bytes : List Byte) : Prop :=
  List.Forall₂ (fun (p : Inputs) (b : Byte) => p.rst = false ∧ p.rxValid = true ∧ p.rxData = b)
    (inputs.take bytes.length) bytes

/-! ## The transport's protocol -/

/-- R77: the transport holds an offered byte until it is accepted. `s` and `t` are the states before two edges in a
row. The block does not rely on it (U7). -/
def TransportHolds (s t : State) : Prop :=
  s.ports.rxValid = true → s.accepts = false → t.ports.rxValid = true ∧ t.ports.rxData = s.ports.rxData

/-! ## What an agent can tell apart -/

/-- Two states that differ at most in buffer entries at or above `rx_count`: the stale bytes (R21, R45, R129). -/
def State.SameButStale (s t : State) : Prop :=
  t = { s with buf := t.buf } ∧ ∀ i < s.rxCount.toNat, t.buf.read i = s.buf.read i

end Sys2Proof.Machine
end

