-- ==== Sys2Proof/Certificates/Slice0/Obligations.lean ====
section
/-! DEFINITION. The statements for the provers. Each docstring names the rule of the spec it formalises. -/

open Sys2Proof Sys2Proof.Machine

/-! ## The CRC-8 generator -/

/-- R70: CRC8_STEP is the parallel form, depends only on `c ^ b`, is linear in it, and has the listed images. -/
def Obligations.Crc8StepIsTheParallelForm : Prop :=
  (∀ c b, crc8Step c b = crc8StepParallel c b) ∧
  (∀ c b, crc8Step c b = crc8Step 0 (c ^^^ b)) ∧
  (∀ v w, crc8Step 0 (v ^^^ w) = crc8Step 0 v ^^^ crc8Step 0 w) ∧
  ((List.range 8).map fun j => crc8Step 0 (1#8 <<< j)) = [0x31, 0x62, 0xC4, 0xB9, 0x43, 0x86, 0x3D, 0x7A]

/-- R71: CRC8_STEP is the table `T[c ^ b]` with `T[v] = crc8_step(0x00, v)`, and the byte-wise form. -/
def Obligations.Crc8StepIsTheTable : Prop :=
  crcTable.length = 256 ∧
  (∀ v : Byte, crcTable[v.toNat]? = some (crc8Step 0x00 v)) ∧
  (∀ c b, crc8Step c b = crc8StepTable c b) ∧
  (∀ c b, crc8Step c b = crc8StepBytewise c b)

/-- R68: `crc8` starts at `CRC_INIT = 0x00` and takes the bytes in order, one pass, with the rule's example. -/
def Obligations.Crc8TakesTheBytesInOrder : Prop :=
  crc8 [] = 0x00 ∧ (∀ m b, crc8 (m ++ [b]) = crc8Step (crc8 m) b) ∧
  (∀ n, crc8 (List.replicate n 0x00) = 0x00) ∧
  crc8 [0x31, 0x32, 0x33, 0x34, 0x35, 0x36, 0x37, 0x38, 0x39] = 0xA2

/-- R72: appending the CRC byte gives CRC zero, so a `Complete` frame has CRC zero over all its bytes. -/
def Obligations.Crc8ResidueIsZero : Prop :=
  (∀ m, crc8 (m ++ [crc8 m]) = 0x00) ∧
  ∀ s : State, s.Inv → s.rxState = .complete →
    ∃ f, s.buf.firstBytes (s.rxLen.toNat + 3) = some f ∧ crc8 f = 0x00

/-- R85's corner case, derived there from R70 and R71: messages that differ in one byte only have different CRCs. -/
def Obligations.OneWrongByteChangesTheCrc : Prop :=
  ∀ (front back : List Byte) (b b' : Byte), b ≠ b' → crc8 (front ++ b :: back) ≠ crc8 (front ++ b' :: back)

/-! ## Decode, encode and the step -/

/-- Words written out from the table's patterns decode to the operations they stand for. -/
def Obligations.WrittenWordsDecode : Prop :=
  decode Config.reference (.edge (.blank 0b10000000)) = .ok .reset ∧
  decode Config.reference (.edge (.blank 0b00110000)) = .ok .dispatchFaulted ∧
  decode Config.reference (.edge { EdgeWord.blank 0b01101001 with gcFlags := 0b010 }) = .ok (.interpDone 0b010) ∧
  decode Config.reference (.edge (.accept 0b00000110 0x55 1 0)) = .ok (.acceptPre1 0x55) ∧
  decode Config.reference (.edge (.accept 0b00100110 0x8A 9 7)) = .ok (.acceptCrc 0x8A) ∧
  decode Config.reference (.opcode 0x01) = .ok .gcode ∧
  decode Config.reference (.opcode 0x02) = .ok (.unknown 0x02)

/-- Decode and encode agree: every well-formed operation but REARM has a word, and the word decodes to it. -/
def Obligations.DecodeOfEncode : Prop :=
  ∀ (p : Params) (i : Instr), p.legal → i.wellFormed p = true →
    (i ≠ .rearm → (encode p i).isSome) ∧ ∀ w, encode p i = some w → decode p w = .ok i

/-- A step runs the decoded operation: nothing is added around `exec`. -/
def Obligations.StepRunsTheDecodedOperation : Prop :=
  ∀ (s : State) (i : Instr), decode s.params (.edge s.edgeWord) = .ok i →
    twoParts s.params s.edgeWord = false → i.wellFormed s.params = true ∧ step s = exec i s

/-- The table's patterns select what R66's conditions select, and from a state that meets the invariant the edge
selects exactly one operation or IDLE (R66). The third clause is the model's choice, not R66's: that a state which selects
two operations is refused (notes/assumptions/6.md, from X8). Outside the invariant the first clause also rests on
notes/assumptions/7.md: IDLE runs where an accepted byte selects no line. -/
def Obligations.SelectionIsRuleSixtySix : Prop :=
  (∀ (s : State) (i : Instr), s.rule66 = [i] → step s = exec i s) ∧
  (∀ s : State, s.Inv → ∃ i, s.rule66 = [i]) ∧
  ∀ s : State, 2 ≤ s.rule66.length → step s = .refused .twoOperations

/-- R143: a dispatcher row and a receiver row match at one edge only in `WAIT` with a receiving `rx_state`. -/
def Obligations.TwoPartsOnlyInUnreachableWait : Prop :=
  ∀ s : State, twoParts s.params s.edgeWord = true →
    s.dpState = .wait ∧ s.rxState.receiving = true ∧ s.ports.rst = false ∧ ¬ s.Inv

/-- The demultiplexer gives GCODE for `P_OPC_GCODE` and UNKNOWN for every other value, and the edge of a settled frame
has the effect of its opcode's class (R56, R96, R97). That a class taken by itself has that effect as one edge of its own,
with the default writes and the inputs taken (the third and fourth clauses), is the model's choice
(notes/assumptions/9.md). -/
def Obligations.OpcodeClassesDemultiplex : Prop :=
  (∀ (p : Params) (b : Byte), (demux p b = .gcode ↔ b = p.opcGcode) ∧
    (demux p b = .unknown b ↔ b ≠ p.opcGcode)) ∧
  (∀ s : State, s.ports.rst = false → s.dpState = .idle → s.rxState = .complete →
    step s = exec (demux s.params s.opcode) s) ∧
  (∀ s : State, ∃ t, exec .gcode s = .next t ∧ t.gcStart = true ∧ t.resValid = false ∧ t.dpState = .wait ∧
    s.SameReceiver t ∧ s.SameBuffer t ∧ t.resCode = s.resCode ∧ t.resFlags = s.resFlags ∧ s.EdgePassed t) ∧
  ∀ (s : State) (b : Byte), ∃ t, exec (.unknown b) s = .next t ∧ t.Emitted .unknownCommand 0x040 ∧ t.Rearmed ∧
    t.gcStart = false ∧ t.dpState = s.dpState ∧ s.SameBuffer t ∧ s.EdgePassed t

/-! ## The byte accepts -/

/-- R78. -/
def Obligations.AcceptPre0TakesAnyByte : Prop :=
  ∀ (s : State) (b : Byte), s.params.legal →
    (receiverRow s.params s.edgeWord = some (.acceptPre0 b) ↔
      s.accepts = true ∧ s.rxState = .awaitingPreamble ∧ s.rxCount = 0 ∧ b = s.ports.rxData) ∧
    (s.rxCount.toNat < s.params.cap →
      ∃ t, exec (.acceptPre0 b) s = .next t ∧ s.Stored t b ∧ t.rxCrc = crc8Step s.rxCrc b ∧
        t.rxState = s.rxState ∧ t.rxFlags = s.rxFlags ∧ t.rxLen = s.rxLen ∧
        s.SameDispatcher t ∧ t.PulsesLow ∧ s.EdgePassed t)

/-- R79, R108. The check reads the pre-state's `buf[0]`; `bad_preamble` is bit 0 of `rx_flags`. -/
def Obligations.AcceptPre1ChecksThePreamble : Prop :=
  ∀ (s : State) (b : Byte), s.params.legal →
    (receiverRow s.params s.edgeWord = some (.acceptPre1 b) ↔
      s.accepts = true ∧ s.rxState = .awaitingPreamble ∧ s.rxCount = 1 ∧ b = s.ports.rxData) ∧
    (s.rxCount.toNat < s.params.cap →
      ∃ t, exec (.acceptPre1 b) s = .next t ∧ s.Stored t b ∧ t.rxCrc = crc8Step s.rxCrc b ∧
        s.Checked t (s.readBuf 0 = s.params.pre0 ∧ b = s.params.pre1) .awaitingLength 0x01 ∧
        t.rxLen = s.rxLen ∧ s.SameDispatcher t ∧ t.PulsesLow ∧ s.EdgePassed t)

/-- R80, R109. `bad_length` is bit 1 of `rx_flags`. -/
def Obligations.AcceptLenChecksTheLength : Prop :=
  ∀ (s : State) (b : Byte), s.params.legal →
    (receiverRow s.params s.edgeWord = some (.acceptLen b) ↔
      s.accepts = true ∧ s.rxState = .awaitingLength ∧ b = s.ports.rxData) ∧
    (s.Inv → s.rxState = .awaitingLength → s.rxCount.toNat = 2) ∧
    (s.rxCount.toNat < s.params.cap →
      ∃ t, exec (.acceptLen b) s = .next t ∧ s.Stored t b ∧ t.rxLen = b ∧ t.rxCrc = crc8Step s.rxCrc b ∧
        s.Checked t (4 ≤ b.toNat ∧ b.toNat ≤ 253) .awaitingSequence 0x02 ∧
        s.SameDispatcher t ∧ t.PulsesLow ∧ s.EdgePassed t)

/-- R81, R110. `bad_sequence` is bit 2 of `rx_flags`. -/
def Obligations.AcceptSeqChecksTheSequence : Prop :=
  ∀ (s : State) (b : Byte), s.params.legal →
    (receiverRow s.params s.edgeWord = some (.acceptSeq b) ↔
      s.accepts = true ∧ s.rxState = .awaitingSequence ∧ b = s.ports.rxData) ∧
    (s.Inv → s.rxState = .awaitingSequence → s.rxCount.toNat = 3) ∧
    (s.rxCount.toNat < s.params.cap →
      ∃ t, exec (.acceptSeq b) s = .next t ∧ s.Stored t b ∧ t.rxCrc = crc8Step s.rxCrc b ∧
        s.Checked t (b = s.params.seq) .awaitingAddress 0x04 ∧ t.rxLen = s.rxLen ∧
        s.SameDispatcher t ∧ t.PulsesLow ∧ s.EdgePassed t)

/-- R82, R111. `bad_address` is bit 3 of `rx_flags`. -/
def Obligations.AcceptAddrChecksTheAddress : Prop :=
  ∀ (s : State) (b : Byte), s.params.legal →
    (receiverRow s.params s.edgeWord = some (.acceptAddr b) ↔
      s.accepts = true ∧ s.rxState = .awaitingAddress ∧ b = s.ports.rxData) ∧
    (s.Inv → s.rxState = .awaitingAddress → s.rxCount.toNat = 4) ∧
    (s.rxCount.toNat < s.params.cap →
      ∃ t, exec (.acceptAddr b) s = .next t ∧ s.Stored t b ∧ t.rxCrc = crc8Step s.rxCrc b ∧
        s.Checked t (b = s.params.addr) .accumulating 0x08 ∧ t.rxLen = s.rxLen ∧
        s.SameDispatcher t ∧ t.PulsesLow ∧ s.EdgePassed t)

/-- R83. -/
def Obligations.AcceptBodyTakesAnyByte : Prop :=
  ∀ (s : State) (b : Byte), s.params.legal →
    (receiverRow s.params s.edgeWord = some (.acceptBody b) ↔
      s.accepts = true ∧ s.rxState = .accumulating ∧ s.rxCount.toNat < s.params.cap ∧
        s.rxCount.toNat + 1 ≠ s.rxLen.toNat + 3 ∧ b = s.ports.rxData) ∧
    (s.rxCount.toNat < s.params.cap →
      ∃ t, exec (.acceptBody b) s = .next t ∧ s.Stored t b ∧ t.rxCrc = crc8Step s.rxCrc b ∧
        t.rxState = s.rxState ∧ t.rxFlags = s.rxFlags ∧ t.rxLen = s.rxLen ∧
        s.SameDispatcher t ∧ t.PulsesLow ∧ s.EdgePassed t)

/-- R84: the byte is consumed and discarded, and the frame faults with bit 5 of `rx_flags`, `oversize`. With `P_CAP = 256` no state that meets the
invariant selects it; a smaller cap's does (see the witness). -/
def Obligations.AcceptOversizeDiscardsTheByte : Prop :=
  (∀ (s : State) (b : Byte),
    (receiverRow s.params s.edgeWord = some (.acceptOversize b) ↔
      s.accepts = true ∧ s.rxState = .accumulating ∧ s.params.cap ≤ s.rxCount.toNat ∧ b = s.ports.rxData) ∧
    ∃ t, exec (.acceptOversize b) s = .next t ∧ t.rxState = .faulted ∧
      t.rxFlags = s.rxFlags ||| 0x20 ∧
      s.SameBuffer t ∧ t.rxCount = s.rxCount ∧ t.rxLen = s.rxLen ∧ t.rxCrc = s.rxCrc ∧
      s.SameDispatcher t ∧ t.PulsesLow ∧ s.EdgePassed t) ∧
  ∀ (s : State) (b : Byte), s.Inv → receiverRow s.params s.edgeWord = some (.acceptOversize b) →
    s.rxCount.toNat = s.params.cap ∧ s.params.cap < s.rxLen.toNat + 3 ∧ s.params.cap < 256

/-- R85, R112: the CRC byte is compared with `rx_crc` and not folded in; `bad_crc` is bit 4 of `rx_flags`. -/
def Obligations.AcceptCrcChecksTheTrailer : Prop :=
  ∀ (s : State) (b : Byte), s.params.legal →
    (receiverRow s.params s.edgeWord = some (.acceptCrc b) ↔
      s.accepts = true ∧ s.rxState = .accumulating ∧ s.rxCount.toNat < s.params.cap ∧
        s.rxCount.toNat + 1 = s.rxLen.toNat + 3 ∧ b = s.ports.rxData) ∧
    (s.rxCount.toNat < s.params.cap →
      ∃ t, exec (.acceptCrc b) s = .next t ∧ s.Stored t b ∧ t.rxCrc = s.rxCrc ∧
        s.Checked t (b = s.rxCrc) .complete 0x10 ∧ t.rxLen = s.rxLen ∧
        s.SameDispatcher t ∧ t.PulsesLow ∧ s.EdgePassed t)

/-- The model's choice (notes/assumptions/8.md): a storing accept with `rx_count >= P_CAP`, which no reachable state
makes (R93), stops with the fault `bufferAddress` and leaves no partial effect. -/
def Obligations.StoringAcceptPastTheCapStops : Prop :=
  ∀ (s : State) (b : Byte), s.params.cap ≤ s.rxCount.toNat →
    ∀ i ∈ [Instr.acceptPre0 b, .acceptPre1 b, .acceptLen b, .acceptSeq b, .acceptAddr b, .acceptBody b, .acceptCrc b],
      exec i s = .fault (.bufferAddress s.rxCount.toNat)

/-- The re-arm clears the five receiver registers and leaves the buffer (R90). That REARM taken alone also leaves the
pulses, the inputs and the edge counter, being no edge of its own, is the model's choice (notes/assumptions/10.md). -/
def Obligations.RearmClearsTheReceiver : Prop :=
  ∀ s : State, ∃ t, exec .rearm s = .next t ∧ t.Rearmed ∧ t.buf = s.buf ∧ s.SameDispatcher t ∧
    t.resValid = s.resValid ∧ t.gcStart = s.gcStart ∧
    t.params = s.params ∧ t.inputs = s.inputs ∧ t.edge = s.edge

/-! ## The dispatcher, reset and idle -/

/-- R95. The flags reported are those of R108 to R113, one bit. -/
def Obligations.DispatchFaultedReportsTheFault : Prop :=
  ∀ s : State,
    (decode s.params (.edge s.edgeWord) = .ok .dispatchFaulted ↔
      s.ports.rst = false ∧ s.dpState = .idle ∧ s.rxState = .faulted) ∧
    (s.Inv → s.rxState = .faulted →
      s.rxFlags.zeroExtend 10 ∈ [0x001#10, 0x002#10, 0x004#10, 0x008#10, 0x010#10, 0x020#10]) ∧
    ∃ t, exec .dispatchFaulted s = .next t ∧ t.Emitted .badPackage (s.rxFlags.zeroExtend 10) ∧ t.Rearmed ∧
      t.gcStart = false ∧ t.dpState = s.dpState ∧ s.SameBuffer t ∧ s.EdgePassed t

/-- R96. -/
def Obligations.DispatchUnknownReportsTheOpcode : Prop :=
  ∀ (s : State) (b : Byte),
    (decode s.params (.edge s.edgeWord) = .ok (.dispatchUnknown b) ↔
      s.ports.rst = false ∧ s.dpState = .idle ∧ s.rxState = .complete ∧ s.opcode ≠ s.params.opcGcode ∧ b = s.opcode) ∧
    ∃ t, exec (.dispatchUnknown b) s = .next t ∧ t.Emitted .unknownCommand (1#10 <<< 6) ∧ t.Rearmed ∧
      t.gcStart = false ∧ t.dpState = s.dpState ∧ s.SameBuffer t ∧ s.EdgePassed t

/-- R97: the receiver stays `Complete` and the payload readable. -/
def Obligations.DispatchGcodeRoutesTheFrame : Prop :=
  ∀ s : State,
    (decode s.params (.edge s.edgeWord) = .ok .dispatchGcode ↔
      s.ports.rst = false ∧ s.dpState = .idle ∧ s.rxState = .complete ∧ s.opcode = s.params.opcGcode) ∧
    ∃ t, exec .dispatchGcode s = .next t ∧ t.gcStart = true ∧ t.dpState = .wait ∧ t.resValid = false ∧
      s.SameReceiver t ∧ s.SameBuffer t ∧ t.resCode = s.resCode ∧ t.resFlags = s.resFlags ∧ s.EdgePassed t

/-- R98: only the default writes. -/
def Obligations.WaitHoldOnlyLowersThePulses : Prop :=
  ∀ s : State,
    (decode s.params (.edge s.edgeWord) = .ok .waitHold ↔
      s.ports.rst = false ∧ s.dpState = .wait ∧ s.ports.gcDone = false) ∧
    ∃ t, exec .waitHold s = .next t ∧ t.PulsesLow ∧ s.SameReceiver t ∧ s.SameBuffer t ∧ s.SameDispatcher t ∧
      s.EdgePassed t

/-- R99: the interpreter's flags are folded into `BadCommand`, or `Success` if none is set. -/
def Obligations.InterpDoneFoldsTheFlags : Prop :=
  ∀ (s : State) (f : BitVec 3),
    (decode s.params (.edge s.edgeWord) = .ok (.interpDone f) ↔
      s.ports.rst = false ∧ s.dpState = .wait ∧ s.ports.gcDone = true ∧ f = s.ports.gcFlags) ∧
    ∃ t, exec (.interpDone f) s = .next t ∧ t.dpState = .idle ∧ t.Rearmed ∧ t.resValid = true ∧ t.gcStart = false ∧
      (f ≠ 0 → t.resCode = .badCommand) ∧ (f = 0 → t.resCode = .success) ∧
      t.resFlags.extractLsb' 7 3 = f ∧ t.resFlags.extractLsb' 0 7 = 0 ∧ s.SameBuffer t ∧ s.EdgePassed t

/-- R66, R101: at an IDLE edge only the default writes happen. -/
def Obligations.IdleOnlyLowersThePulses : Prop :=
  ∀ s : State, ∃ t, exec .idle s = .next t ∧ t.PulsesLow ∧ s.SameReceiver t ∧ s.SameBuffer t ∧ s.SameDispatcher t ∧
    s.EdgePassed t

/-- R127: an edge with `rst = 1` leaves the reset values whatever else happens, and does not write `buf`. -/
def Obligations.ResetOverridesEverything : Prop :=
  (∀ s : State, s.ports.rst = true → step s = exec .reset s ∧ s.accepts = false) ∧
  ∀ s : State, ∃ t, exec .reset s = .next t ∧ t.Rearmed ∧ t.dpState = .idle ∧ t.resCode.code = 0 ∧ t.resFlags = 0x000 ∧
    t.resValid = false ∧ t.gcStart = false ∧ t.buf = s.buf ∧ s.EdgePassed t

/-- R33: the reset values of `10_state.md`, after every edge with `rst = 1` and in the state the model starts from, for
every configuration; reset leaves `buf` as it is and after power-up every entry is `⊥`. That State.reset has the reference
configuration and no driven input is the model's choice (notes/assumptions/1.md, 2.md). -/
def Obligations.ResetGivesTheResetValues : Prop :=
  let atReset := fun s : State =>
    s.rxState.code = 0 ∧ s.rxCount = 0 ∧ s.rxFlags = 0b000000 ∧ s.rxLen = 0x00 ∧ s.rxCrc = 0x00 ∧
    s.dpState.code = 0 ∧ s.resCode.code = 0 ∧ s.resFlags = 0 ∧ s.resValid = false ∧ s.gcStart = false
  (∀ s : State, s.ports.rst = true → ∃ t, step s = .next t ∧ atReset t ∧ t.buf = s.buf ∧ t.params = s.params) ∧
  ∀ p : Params, atReset (State.resetWith p) ∧ (State.resetWith p).params = p ∧
    ∀ a, (State.resetWith p).buf.read a = none

/-! ## The output ports -/

/-- R28: `rx_ready`. -/
def Obligations.ReadyExactlyWhileReceiving : Prop :=
  ∀ s : State, s.rxReady = true ↔ s.ports.rst = false ∧
    s.rxState ∈ [.awaitingPreamble, .awaitingLength, .awaitingSequence, .awaitingAddress, .accumulating]

/-- R29, R32: the frame status outputs and the dispatcher outputs are copies of the registers, in the encodings of R59
and R61, value by value; R60 beside them. -/
def Obligations.StatusOutputsCopyTheRegisters : Prop :=
  (RxState.code .awaitingPreamble = 0 ∧ RxState.code .awaitingLength = 1 ∧ RxState.code .awaitingSequence = 2 ∧
    RxState.code .awaitingAddress = 3 ∧ RxState.code .accumulating = 4 ∧ RxState.code .complete = 5 ∧
    RxState.code .faulted = 6 ∧ ∀ x : RxState, x.code ≠ 7) ∧
  (DpState.code .idle = 0 ∧ DpState.code .wait = 1) ∧
  (ResCode.code .success = 0 ∧ ResCode.code .badPackage = 1 ∧ ResCode.code .unknownCommand = 2 ∧
    ResCode.code .badCommand = 3) ∧
  ∀ s : State, s.frState = s.rxState.code ∧ (s.frComplete = true ↔ s.rxState = .complete) ∧
    (s.frFaulted = true ↔ s.rxState = .faulted) ∧ s.frFlags = s.rxFlags ∧
    s.gcStartOut = s.gcStart ∧ s.resValidOut = s.resValid ∧ s.resCodeOut = s.resCode.code ∧ s.resFlagsOut = s.resFlags

/-- R62, R63: the bit of each of the ten faults, the same number in `rx_flags` and in `res_flags`, and the interpreter's
three flags in `res_flags[9:7]`. -/
def Obligations.FaultsHaveTheirBits : Prop :=
  (FramingFault.mask .badPreamble = 0x01 ∧ FramingFault.mask .badLength = 0x02 ∧ FramingFault.mask .badSequence = 0x04 ∧
    FramingFault.mask .badAddress = 0x08 ∧ FramingFault.mask .badCrc = 0x10 ∧ FramingFault.mask .oversize = 0x20) ∧
  (CommandFault.mask .unknownOpcode = 0x040 ∧ CommandFault.mask .wrongGcode = 0x080 ∧
    CommandFault.mask .badCoords = 0x100 ∧ CommandFault.mask .badFeed = 0x200) ∧
  (∀ f : FramingFault, (framingVector f.mask).toNat = f.mask.toNat) ∧
  ∀ (s t : State) (g : BitVec 3), exec (.interpDone g) s = .next t →
    (t.resFlags &&& CommandFault.mask .wrongGcode ≠ 0 ↔ g.getLsbD 0 = true) ∧
    (t.resFlags &&& CommandFault.mask .badCoords ≠ 0 ↔ g.getLsbD 1 = true) ∧
    (t.resFlags &&& CommandFault.mask .badFeed ≠ 0 ↔ g.getLsbD 2 = true)

/-- R30, R31: in `Complete` the outcome outputs show the frame of the buffer: opcode, declared length, payload length and
each payload byte. -/
def Obligations.OutcomeOutputsShowTheFrame : Prop :=
  ∀ s : State, s.Inv → s.rxState = .complete →
    ∃ f, s.buf.firstBytes (s.rxLen.toNat + 3) = some f ∧ f[5]? = some s.frOpcode ∧ f[2]? = some s.frLen ∧
      s.plLen.toNat + 4 = s.rxLen.toNat ∧ s.plLen.toNat ≤ 249 ∧
      ∀ idx : Byte, idx.toNat < s.plLen.toNat → f[6 + idx.toNat]? = some (s.plDataAt idx)

/-! ## Invariants -/

/-- The reset state of every legal configuration meets the invariant, under any inputs. -/
def Obligations.ResetMeetsTheInvariant : Prop :=
  ∀ (p : Params) (inputs : List Inputs) (edge : Nat), p.legal →
    ({ State.resetWith p with inputs := inputs, edge := edge } : State).Inv

/-- Every step keeps the invariant, from every state that meets it. -/
def Obligations.StepKeepsTheInvariant : Prop :=
  ∀ s t : State, s.Inv → step s = .next t → t.Inv

/-- No step stops (R107): from every state that meets the invariant the edge gives a next state. -/
def Obligations.NoStepStops : Prop := ∀ s : State, s.Inv → ∃ t, step s = .next t

/-- R93: every state reachable from reset satisfies the table and its four additions. -/
def Obligations.ReachableStatesSatisfyTheTable : Prop :=
  ∀ s : State, Reachable s →
    s.ReceiverShape ∧ (∀ i < s.rxCount.toNat, (s.buf.read i).isSome) ∧
    (s.rxCount.toNat ≤ s.params.cap ∧ s.params.cap ≤ 256) ∧
    (∀ a, step s ≠ .fault (.bufferAddress a)) ∧
    (s.dpState = .wait → s.rxState = .complete)

/-- R88: in every reachable state `rx_crc` is the CRC-8 of the stored bytes, less the CRC byte once it has come. -/
def Obligations.RunningCrcIsTheBufferCrc : Prop :=
  ∀ s : State, Reachable s →
    (s.rxState.receiving = true ∨ (s.rxState = .faulted ∧ s.rxFlags ≠ FramingFault.badCrc.mask) →
      (s.buf.firstBytes s.rxCount.toNat).map crc8 = some s.rxCrc) ∧
    (s.rxState = .complete ∨ (s.rxState = .faulted ∧ s.rxFlags = FramingFault.badCrc.mask) →
      (s.buf.firstBytes (s.rxCount.toNat - 1)).map crc8 = some s.rxCrc)

/-- R92: in `Faulted` exactly one bit of `rx_flags` is set; outside it none is. -/
def Obligations.FaultedHasExactlyOneFlag : Prop :=
  ∀ s : State, Reachable s →
    (s.rxState = .faulted → ∃ f : FramingFault, s.rxFlags = f.mask ∧ ∀ g : FramingFault, s.rxFlags = g.mask → g = f) ∧
    (s.rxState ≠ .faulted → s.rxFlags = 0)

/-- R51, R57: what reaches `Complete` is a legal frame. -/
def Obligations.CompleteFramesAreLegal : Prop :=
  ∀ s : State, s.Inv → s.rxState = .complete →
    ∃ f, s.buf.firstBytes s.rxCount.toNat = some f ∧ LegalFrame s.params f

/-- R105: framing bits and command bits are never set in the same result, and a result's bits fit its kind. -/
def Obligations.ResultTiersNeverMix : Prop :=
  ∀ s : State, Reachable s →
    (s.resFlags.extractLsb' 0 6 = 0 ∨ s.resFlags.extractLsb' 6 4 = 0) ∧
    (s.resCode = .badPackage ↔ s.resFlags.extractLsb' 0 6 ≠ 0) ∧
    (s.resCode = .unknownCommand ↔ s.resFlags.getLsbD 6 = true) ∧
    (s.resCode = .badCommand ↔ s.resFlags.extractLsb' 7 3 ≠ 0)

/-- Every step keeps the buffer's canonical form, from every state (the model's own form: notes/assumptions/4.md). -/
def Obligations.StepKeepsTheBufferCanonical : Prop :=
  ∀ s t : State, s.buf.wf → step s = .next t → t.buf.wf

/-! ## Rules of the whole machine -/

/-- R26: no step changes a parameter; in particular the expected sequence value never advances (R138). -/
def Obligations.ParametersNeverChange : Prop :=
  ∀ s t : State, step s = .next t → t.params = s.params

/-- R37: only an accepted byte is written, only at `rx_count`, and never in `Complete` or `Faulted`. -/
def Obligations.OnlyAcceptsWriteTheBuffer : Prop :=
  ∀ s t : State, step s = .next t → ∀ a, t.buf.read a ≠ s.buf.read a →
    s.accepts = true ∧ s.rxState.receiving = true ∧ a = s.rxCount.toNat ∧ a < s.params.cap ∧
      t.buf.read a = some s.ports.rxData

/-- R86: from `Complete` and `Faulted` no receiver field changes but by a re-arm or a reset. -/
def Obligations.SettledReceiverChangesOnlyByRearm : Prop :=
  ∀ s t : State, (s.rxState = .complete ∨ s.rxState = .faulted) → step s = .next t →
    s.rxReady = false ∧ s.accepts = false ∧ s.SameBuffer t ∧ ((s.SameReceiver t ∧ ¬ s.EmitsResult ∧ s.ports.rst = false) ∨
      (t.Rearmed ∧ (s.EmitsResult ∨ s.ports.rst = true)))

/-- R24, R25, R101: the pulses show exactly that a result was emitted and that a frame was routed, and from a state that
meets the invariant neither is high for two intervals in a row. -/
def Obligations.PulsesLastOneInterval : Prop :=
  (∀ p : Params, (State.resetWith p).PulsesLow) ∧
  (∀ s t : State, step s = .next t → (t.resValid = true ↔ s.EmitsResult) ∧ (t.gcStart = true ↔ s.RoutesFrame)) ∧
  ∀ s t u : State, s.Inv → step s = .next t → step t = .next u →
    (t.resValid = true → u.resValid = false) ∧ (t.gcStart = true → u.gcStart = false)

/-- R102: without a reset the result registers change only with a result, and a result does not depend on the old one. -/
def Obligations.ResultsAreHeldAndReplaced : Prop :=
  (∀ s t : State, step s = .next t → s.ports.rst = false → t.resValid = false →
    t.resCode = s.resCode ∧ t.resFlags = s.resFlags) ∧
  ∀ (s t : State) (c : ResCode) (g : BitVec 10), step s = .next t → t.resValid = true →
    step { s with resCode := c, resFlags := g } = .next t

/-- R106: a frame is routed only if it is `Complete` with opcode `P_OPC_GCODE`. -/
def Obligations.OnlyGcodeFramesAreRouted : Prop :=
  ∀ s t : State, step s = .next t → t.gcStart = true →
    s.rxState = .complete ∧ s.opcode = s.params.opcGcode ∧ s.dpState = .idle ∧ s.ports.rst = false

/-- R100, R139: `gc_done` and `gc_flags` are not sampled in `IDLE`, nor `gc_flags` without `gc_done`. -/
def Obligations.InterpreterSampledOnlyWhenWaiting : Prop :=
  ∀ (s : State) (p : Inputs) (rest : List Inputs) (d : Bool) (g : BitVec 3), s.inputs = p :: rest →
    (s.dpState = .idle → step { s with inputs := { p with gcDone := d, gcFlags := g } :: rest } = step s) ∧
    (p.gcDone = false → step { s with inputs := { p with gcFlags := g } :: rest } = step s)

/-- R77, U6: `rx_data` is sampled only at an edge that accepts a byte; `pl_idx` never changes a register (R31, U12). -/
def Obligations.DataSampledOnlyWhenAccepted : Prop :=
  ∀ (s : State) (p : Inputs) (rest : List Inputs) (b : Byte), s.inputs = p :: rest →
    (s.accepts = false → step { s with inputs := { p with rxData := b } :: rest } = step s) ∧
    step { s with inputs := { p with plIdx := b } :: rest } = step s

/-- R122, R123: a framing fault raised at one edge is reported at the next, with its one flag, and the receiver is
re-armed then. -/
def Obligations.FaultReportedAtTheNextEdge : Prop :=
  ∀ s t u : State, s.Inv → s.rxState ≠ .faulted → step s = .next t → t.rxState = .faulted →
    t.ports.rst = false → step t = .next u →
    ∃ f : FramingFault, t.rxFlags = f.mask ∧ u.Emitted .badPackage (framingVector f.mask) ∧ u.Rearmed ∧
      t.SameBuffer u ∧ u.gcStart = false

/-- R46, R132, R133: the byte that a holding transport offers at the edge of the report is not taken there; it is taken
at the following edge, as offset 0 of a new frame. -/
def Obligations.HeldByteStartsTheNextFrame : Prop :=
  ∀ s t : State, s.Inv → s.EmitsResult → s.ports.rxValid = true → step s = .next t → TransportHolds s t →
    t.ports.rst = false →
    s.SameBuffer t ∧ ∃ u, step t = .next u ∧ u.rxCount = 1 ∧ u.rxState = .awaitingPreamble ∧
      u.buf.read 0 = some s.ports.rxData ∧ u.rxCrc = crc8Step 0x00 s.ports.rxData

/-- R135: while the interpreter does not answer and no reset comes, the command waits, for any number of edges, and the
payload stays as it is (R48). -/
def Obligations.WaitHasNoTimeout : Prop :=
  ∀ (n : Nat) (s : State), s.dpState = .wait → s.rxState = .complete → n ≤ s.inputs.length →
    (∀ p ∈ s.inputs.take n, p.rst = false ∧ p.gcDone = false) →
    ∃ t : State, Host.Core.run Sys2Proof.core n s = .next t ∧ s.SameDispatcher t ∧ s.SameReceiver t ∧ t.buf = s.buf ∧
      t.inputs = s.inputs.drop n ∧ (1 ≤ n → t.PulsesLow)

/-- R134: while no byte comes and no reset, a partial frame stays as it is, for any number of edges. -/
def Obligations.PartialFrameHasNoTimeout : Prop :=
  ∀ (n : Nat) (s : State), s.dpState = .idle → s.rxState.receiving = true → n ≤ s.inputs.length →
    (∀ p ∈ s.inputs.take n, p.rst = false ∧ p.rxValid = false) →
    ∃ t : State, Host.Core.run Sys2Proof.core n s = .next t ∧ s.SameDispatcher t ∧ s.SameReceiver t ∧ t.buf = s.buf ∧
      t.inputs = s.inputs.drop n ∧ (1 ≤ n → t.PulsesLow)

/-- R53, R73, R85, R141: `N = L + 3` bytes with a legal header, offered back to back to an armed receiver, settle after
exactly `N` edges: `Complete` with every field shown if the last byte is the CRC-8 of the others, `Faulted` with
`bad_crc` alone if it is any other byte. -/
def Obligations.FrameIsReceivedInItsLength : Prop :=
  ∀ (s : State) (opc : Byte) (payload : List Byte) (c : Byte), s.Inv →
    s.rxState = .awaitingPreamble → s.rxCount = 0 → payload.length ≤ 249 → payload.length + 7 ≤ s.params.cap →
    Offers s.inputs (frameBody s.params opc payload ++ [c]) →
    ∃ t : State, Host.Core.run Sys2Proof.core (payload.length + 7) s = .next t ∧
      t.buf.firstBytes (payload.length + 7) = some (frameBody s.params opc payload ++ [c]) ∧
      t.dpState = .idle ∧ t.resCode = s.resCode ∧ t.resFlags = s.resFlags ∧ t.inputs = s.inputs.drop (payload.length + 7) ∧
      t.frLen.toNat = payload.length + 4 ∧
      (c = crc8 (frameBody s.params opc payload) →
        t.rxState = .complete ∧ t.rxFlags = 0 ∧ t.frOpcode = opc ∧ t.plLen.toNat = payload.length ∧
        ∀ idx : Byte, idx.toNat < payload.length → payload[idx.toNat]? = some (t.plDataAt idx)) ∧
      (c ≠ crc8 (frameBody s.params opc payload) →
        t.rxState = .faulted ∧ t.rxFlags = 0x10)

/-- R45, R129: bytes at or above `rx_count` are never read: states that differ only there step to states that differ
only there, and show the same specified outputs. -/
def Obligations.StaleBytesAreNeverRead : Prop :=
  ∀ s s' t : State, s.Inv → s'.Inv → s.SameButStale s' → step s = .next t →
    (∃ t', step s' = .next t' ∧ t.SameButStale t') ∧
    (s.rxState = .complete → s'.frOpcode = s.frOpcode ∧
      ∀ idx : Byte, idx.toNat < s.plLen.toNat → s'.plDataAt idx = s.plDataAt idx)
end

