-- ==== Sys2Proof/Laws/Memory.lean ====
section
/-! SUPPORT. The laws of the frame buffer: a read after a write, the canonical form, and the buffer's bytes as a list. -/

namespace Sys2Proof.Machine

@[simp] theorem Memory.read_nil (a : Nat) : Memory.read [] a = none := rfl

theorem Memory.read_cons (k : Nat) (v : Byte) (m : Memory) (a : Nat) :
    Memory.read ((k, v) :: m) a = if k = a then some v else m.read a := rfl

/-- MemRead after MemWrite (R12): the written address gives the byte, every other address is left alone. -/
theorem Memory.read_write (m : Memory) (a : Nat) (v : Byte) (x : Nat) :
    (m.write a v).read x = if x = a then some v else m.read x := by
  induction m with
  | nil => simp only [Memory.write, Memory.read_cons, eq_comm]
  | cons e m ih =>
    obtain ⟨k, w⟩ := e
    simp only [Memory.write]
    split
    · simp only [Memory.read_cons, eq_comm]
    · split
      · subst_vars
        simp only [Memory.read_cons, eq_comm]
        split <;> simp_all
      · simp only [Memory.read_cons, ih]
        split <;> split <;> simp_all

@[simp] theorem Memory.read_write_self (m : Memory) (a : Nat) (v : Byte) : (m.write a v).read a = some v := by
  simp [Memory.read_write]

theorem Memory.read_write_of_ne (m : Memory) {a x : Nat} (v : Byte) (h : x ≠ a) :
    (m.write a v).read x = m.read x := by
  simp [Memory.read_write, h]

/-- A write adds its own entry at most. -/
theorem Memory.mem_write {m : Memory} {a : Nat} {v : Byte} {e : Host.Cell} (h : e ∈ m.write a v) :
    e = (a, v) ∨ e ∈ m := by
  induction m with
  | nil => simpa [Memory.write] using h
  | cons c m ih =>
    obtain ⟨k, w⟩ := c
    simp only [Memory.write] at h
    split at h
    · simpa using h
    · split at h
      · rcases List.mem_cons.mp h with h | h
        · exact .inl h
        · exact .inr (List.mem_cons_of_mem _ h)
      · rcases List.mem_cons.mp h with h | h
        · exact .inr (h ▸ List.mem_cons_self)
        · exact (ih h).imp id (List.mem_cons_of_mem _)

theorem Memory.wf_nil : Memory.wf [] := List.Pairwise.nil

/-- Every write keeps the canonical form. -/
theorem Memory.wf_write {m : Memory} (a : Nat) (v : Byte) (h : m.wf) : (m.write a v).wf := by
  induction m with
  | nil => simp [Memory.write]
  | cons c m ih =>
    obtain ⟨k, w⟩ := c
    obtain ⟨hk, hm⟩ := List.pairwise_cons.mp h
    simp only [Memory.write]
    split
    · rename_i hlt
      refine List.pairwise_cons.mpr ⟨fun e he => ?_, h⟩
      rcases List.mem_cons.mp he with rfl | he
      · exact hlt
      · exact lt_trans hlt (hk e he)
    · split
      · subst_vars
        exact List.pairwise_cons.mpr ⟨hk, hm⟩
      · refine List.pairwise_cons.mpr ⟨fun e he => ?_, ih hm⟩
        rcases Memory.mem_write he with rfl | he
        · simp only; omega
        · exact hk e he

/-- The reset state's memory has the canonical form. -/
theorem State.reset_buf_wf : State.reset.buf.wf := Memory.wf_nil

/-! ## The buffer's first bytes -/

theorem Memory.firstBytes_succ {m : Memory} {n : Nat} {l : List Byte} {b : Byte}
    (hl : m.firstBytes n = some l) (hb : m.read n = some b) : m.firstBytes (n + 1) = some (l ++ [b]) := by
  simp [Memory.firstBytes, hl, hb]

theorem Memory.firstBytes_length {m : Memory} {n : Nat} {l : List Byte} (h : m.firstBytes n = some l) :
    l.length = n := by
  induction n generalizing l with
  | zero => simp_all [Memory.firstBytes]
  | succ n ih =>
    simp only [Memory.firstBytes] at h
    split at h
    · rename_i l' b hl hb
      simp only [Option.some.injEq] at h
      subst h
      simp [ih hl]
    · cases h

/-- The bytes listed are what each address reads as. -/
theorem Memory.getElem?_firstBytes {m : Memory} {n i : Nat} {l : List Byte} (h : m.firstBytes n = some l)
    (hi : i < n) : l[i]? = m.read i := by
  induction n generalizing l with
  | zero => omega
  | succ n ih =>
    simp only [Memory.firstBytes] at h
    split at h
    · rename_i l' b hl hb
      simp only [Option.some.injEq] at h
      subst h
      have hlen := Memory.firstBytes_length hl
      by_cases hin : i < n
      · rw [List.getElem?_append_left (by omega), ih hl hin]
      · have : i = n := by omega
        subst this
        rw [List.getElem?_append_right (by omega)]
        simp [hlen, hb]
    · cases h

/-- The first bytes depend on the addresses below `n` only. -/
theorem Memory.firstBytes_congr {m m' : Memory} {n : Nat} (h : ∀ i < n, m'.read i = m.read i) :
    m'.firstBytes n = m.firstBytes n := by
  induction n with
  | zero => rfl
  | succ n ih =>
    simp only [Memory.firstBytes, ih fun i hi => h i (by omega), h n (by omega)]

/-- A write at or above `n` leaves the first `n` bytes alone. -/
theorem Memory.firstBytes_write {m : Memory} {n a : Nat} (v : Byte) (h : n ≤ a) :
    (m.write a v).firstBytes n = m.firstBytes n :=
  Memory.firstBytes_congr fun i hi => Memory.read_write_of_ne m v (by omega)

end Sys2Proof.Machine
end

