-- ==== Sys2Proof/Laws/State.lean ====
section
/-! SUPPORT. What each named update leaves in each field of the state: one lemma a field and update, true by rfl, in the
simp set, so that no proof unfolds a record update. -/

namespace Sys2Proof.Machine

/-! the default writes of an edge (R101) -/

@[simp] theorem State.tick_rxState (s : State) : s.tick.rxState = s.rxState := rfl
@[simp] theorem State.tick_rxCount (s : State) : s.tick.rxCount = s.rxCount := rfl
@[simp] theorem State.tick_rxLen (s : State) : s.tick.rxLen = s.rxLen := rfl
@[simp] theorem State.tick_rxCrc (s : State) : s.tick.rxCrc = s.rxCrc := rfl
@[simp] theorem State.tick_rxFlags (s : State) : s.tick.rxFlags = s.rxFlags := rfl
@[simp] theorem State.tick_buf (s : State) : s.tick.buf = s.buf := rfl
@[simp] theorem State.tick_dpState (s : State) : s.tick.dpState = s.dpState := rfl
@[simp] theorem State.tick_resCode (s : State) : s.tick.resCode = s.resCode := rfl
@[simp] theorem State.tick_resFlags (s : State) : s.tick.resFlags = s.resFlags := rfl
@[simp] theorem State.tick_resValid (s : State) : s.tick.resValid = false := rfl
@[simp] theorem State.tick_gcStart (s : State) : s.tick.gcStart = false := rfl
@[simp] theorem State.tick_params (s : State) : s.tick.params = s.params := rfl
@[simp] theorem State.tick_inputs (s : State) : s.tick.inputs = s.inputs.tail := rfl
@[simp] theorem State.tick_edge (s : State) : s.tick.edge = s.edge + 1 := rfl

/-! STORE (R76) -/

@[simp] theorem State.storeByte_rxState (s : State) (b : Byte) : (s.storeByte b).rxState = s.rxState := rfl
@[simp] theorem State.storeByte_rxCount (s : State) (b : Byte) : (s.storeByte b).rxCount = s.rxCount + 1 := rfl
@[simp] theorem State.storeByte_rxLen (s : State) (b : Byte) : (s.storeByte b).rxLen = s.rxLen := rfl
@[simp] theorem State.storeByte_rxCrc (s : State) (b : Byte) : (s.storeByte b).rxCrc = s.rxCrc := rfl
@[simp] theorem State.storeByte_rxFlags (s : State) (b : Byte) : (s.storeByte b).rxFlags = s.rxFlags := rfl
@[simp] theorem State.storeByte_buf (s : State) (b : Byte) : (s.storeByte b).buf = s.buf.write s.rxCount.toNat b := rfl
@[simp] theorem State.storeByte_dpState (s : State) (b : Byte) : (s.storeByte b).dpState = s.dpState := rfl
@[simp] theorem State.storeByte_resCode (s : State) (b : Byte) : (s.storeByte b).resCode = s.resCode := rfl
@[simp] theorem State.storeByte_resFlags (s : State) (b : Byte) : (s.storeByte b).resFlags = s.resFlags := rfl
@[simp] theorem State.storeByte_resValid (s : State) (b : Byte) : (s.storeByte b).resValid = s.resValid := rfl
@[simp] theorem State.storeByte_gcStart (s : State) (b : Byte) : (s.storeByte b).gcStart = s.gcStart := rfl
@[simp] theorem State.storeByte_params (s : State) (b : Byte) : (s.storeByte b).params = s.params := rfl
@[simp] theorem State.storeByte_inputs (s : State) (b : Byte) : (s.storeByte b).inputs = s.inputs := rfl
@[simp] theorem State.storeByte_edge (s : State) (b : Byte) : (s.storeByte b).edge = s.edge := rfl

/-! folding a byte into `rx_crc` (R74) -/

@[simp] theorem State.foldCrc_rxState (s : State) (b : Byte) : (s.foldCrc b).rxState = s.rxState := rfl
@[simp] theorem State.foldCrc_rxCount (s : State) (b : Byte) : (s.foldCrc b).rxCount = s.rxCount := rfl
@[simp] theorem State.foldCrc_rxLen (s : State) (b : Byte) : (s.foldCrc b).rxLen = s.rxLen := rfl
@[simp] theorem State.foldCrc_rxCrc (s : State) (b : Byte) : (s.foldCrc b).rxCrc = crc8Step s.rxCrc b := rfl
@[simp] theorem State.foldCrc_rxFlags (s : State) (b : Byte) : (s.foldCrc b).rxFlags = s.rxFlags := rfl
@[simp] theorem State.foldCrc_buf (s : State) (b : Byte) : (s.foldCrc b).buf = s.buf := rfl
@[simp] theorem State.foldCrc_dpState (s : State) (b : Byte) : (s.foldCrc b).dpState = s.dpState := rfl
@[simp] theorem State.foldCrc_resCode (s : State) (b : Byte) : (s.foldCrc b).resCode = s.resCode := rfl
@[simp] theorem State.foldCrc_resFlags (s : State) (b : Byte) : (s.foldCrc b).resFlags = s.resFlags := rfl
@[simp] theorem State.foldCrc_resValid (s : State) (b : Byte) : (s.foldCrc b).resValid = s.resValid := rfl
@[simp] theorem State.foldCrc_gcStart (s : State) (b : Byte) : (s.foldCrc b).gcStart = s.gcStart := rfl
@[simp] theorem State.foldCrc_params (s : State) (b : Byte) : (s.foldCrc b).params = s.params := rfl
@[simp] theorem State.foldCrc_inputs (s : State) (b : Byte) : (s.foldCrc b).inputs = s.inputs := rfl
@[simp] theorem State.foldCrc_edge (s : State) (b : Byte) : (s.foldCrc b).edge = s.edge := rfl

/-! the declared length (R80) -/

@[simp] theorem State.setLen_rxState (s : State) (b : Byte) : (s.setLen b).rxState = s.rxState := rfl
@[simp] theorem State.setLen_rxCount (s : State) (b : Byte) : (s.setLen b).rxCount = s.rxCount := rfl
@[simp] theorem State.setLen_rxLen (s : State) (b : Byte) : (s.setLen b).rxLen = b := rfl
@[simp] theorem State.setLen_rxCrc (s : State) (b : Byte) : (s.setLen b).rxCrc = s.rxCrc := rfl
@[simp] theorem State.setLen_rxFlags (s : State) (b : Byte) : (s.setLen b).rxFlags = s.rxFlags := rfl
@[simp] theorem State.setLen_buf (s : State) (b : Byte) : (s.setLen b).buf = s.buf := rfl
@[simp] theorem State.setLen_dpState (s : State) (b : Byte) : (s.setLen b).dpState = s.dpState := rfl
@[simp] theorem State.setLen_resCode (s : State) (b : Byte) : (s.setLen b).resCode = s.resCode := rfl
@[simp] theorem State.setLen_resFlags (s : State) (b : Byte) : (s.setLen b).resFlags = s.resFlags := rfl
@[simp] theorem State.setLen_resValid (s : State) (b : Byte) : (s.setLen b).resValid = s.resValid := rfl
@[simp] theorem State.setLen_gcStart (s : State) (b : Byte) : (s.setLen b).gcStart = s.gcStart := rfl
@[simp] theorem State.setLen_params (s : State) (b : Byte) : (s.setLen b).params = s.params := rfl
@[simp] theorem State.setLen_inputs (s : State) (b : Byte) : (s.setLen b).inputs = s.inputs := rfl
@[simp] theorem State.setLen_edge (s : State) (b : Byte) : (s.setLen b).edge = s.edge := rfl

/-! a receiver state entered -/

@[simp] theorem State.enter_rxState (s : State) (x : RxState) : (s.enter x).rxState = x := rfl
@[simp] theorem State.enter_rxCount (s : State) (x : RxState) : (s.enter x).rxCount = s.rxCount := rfl
@[simp] theorem State.enter_rxLen (s : State) (x : RxState) : (s.enter x).rxLen = s.rxLen := rfl
@[simp] theorem State.enter_rxCrc (s : State) (x : RxState) : (s.enter x).rxCrc = s.rxCrc := rfl
@[simp] theorem State.enter_rxFlags (s : State) (x : RxState) : (s.enter x).rxFlags = s.rxFlags := rfl
@[simp] theorem State.enter_buf (s : State) (x : RxState) : (s.enter x).buf = s.buf := rfl
@[simp] theorem State.enter_dpState (s : State) (x : RxState) : (s.enter x).dpState = s.dpState := rfl
@[simp] theorem State.enter_resCode (s : State) (x : RxState) : (s.enter x).resCode = s.resCode := rfl
@[simp] theorem State.enter_resFlags (s : State) (x : RxState) : (s.enter x).resFlags = s.resFlags := rfl
@[simp] theorem State.enter_resValid (s : State) (x : RxState) : (s.enter x).resValid = s.resValid := rfl
@[simp] theorem State.enter_gcStart (s : State) (x : RxState) : (s.enter x).gcStart = s.gcStart := rfl
@[simp] theorem State.enter_params (s : State) (x : RxState) : (s.enter x).params = s.params := rfl
@[simp] theorem State.enter_inputs (s : State) (x : RxState) : (s.enter x).inputs = s.inputs := rfl
@[simp] theorem State.enter_edge (s : State) (x : RxState) : (s.enter x).edge = s.edge := rfl

/-! a framing fault raised (R122) -/

@[simp] theorem State.raise_rxState (s : State) (f : FramingFault) : (s.raise f).rxState = .faulted := rfl
@[simp] theorem State.raise_rxCount (s : State) (f : FramingFault) : (s.raise f).rxCount = s.rxCount := rfl
@[simp] theorem State.raise_rxLen (s : State) (f : FramingFault) : (s.raise f).rxLen = s.rxLen := rfl
@[simp] theorem State.raise_rxCrc (s : State) (f : FramingFault) : (s.raise f).rxCrc = s.rxCrc := rfl
@[simp] theorem State.raise_rxFlags (s : State) (f : FramingFault) : (s.raise f).rxFlags = s.rxFlags ||| f.mask := rfl
@[simp] theorem State.raise_buf (s : State) (f : FramingFault) : (s.raise f).buf = s.buf := rfl
@[simp] theorem State.raise_dpState (s : State) (f : FramingFault) : (s.raise f).dpState = s.dpState := rfl
@[simp] theorem State.raise_resCode (s : State) (f : FramingFault) : (s.raise f).resCode = s.resCode := rfl
@[simp] theorem State.raise_resFlags (s : State) (f : FramingFault) : (s.raise f).resFlags = s.resFlags := rfl
@[simp] theorem State.raise_resValid (s : State) (f : FramingFault) : (s.raise f).resValid = s.resValid := rfl
@[simp] theorem State.raise_gcStart (s : State) (f : FramingFault) : (s.raise f).gcStart = s.gcStart := rfl
@[simp] theorem State.raise_params (s : State) (f : FramingFault) : (s.raise f).params = s.params := rfl
@[simp] theorem State.raise_inputs (s : State) (f : FramingFault) : (s.raise f).inputs = s.inputs := rfl
@[simp] theorem State.raise_edge (s : State) (f : FramingFault) : (s.raise f).edge = s.edge := rfl

/-! the re-arm (R90) -/

@[simp] theorem State.rearm_rxState (s : State) : s.rearm.rxState = .awaitingPreamble := rfl
@[simp] theorem State.rearm_rxCount (s : State) : s.rearm.rxCount = 0 := rfl
@[simp] theorem State.rearm_rxLen (s : State) : s.rearm.rxLen = 0x00 := rfl
@[simp] theorem State.rearm_rxCrc (s : State) : s.rearm.rxCrc = Config.crcInit := rfl
@[simp] theorem State.rearm_rxFlags (s : State) : s.rearm.rxFlags = 0 := rfl
@[simp] theorem State.rearm_buf (s : State) : s.rearm.buf = s.buf := rfl
@[simp] theorem State.rearm_dpState (s : State) : s.rearm.dpState = s.dpState := rfl
@[simp] theorem State.rearm_resCode (s : State) : s.rearm.resCode = s.resCode := rfl
@[simp] theorem State.rearm_resFlags (s : State) : s.rearm.resFlags = s.resFlags := rfl
@[simp] theorem State.rearm_resValid (s : State) : s.rearm.resValid = s.resValid := rfl
@[simp] theorem State.rearm_gcStart (s : State) : s.rearm.gcStart = s.gcStart := rfl
@[simp] theorem State.rearm_params (s : State) : s.rearm.params = s.params := rfl
@[simp] theorem State.rearm_inputs (s : State) : s.rearm.inputs = s.inputs := rfl
@[simp] theorem State.rearm_edge (s : State) : s.rearm.edge = s.edge := rfl

/-! a result emitted (R12) -/

@[simp] theorem State.emit_rxState (s : State) (c : ResCode) (g : BitVec 10) : (s.emit c g).rxState = s.rxState := rfl
@[simp] theorem State.emit_rxCount (s : State) (c : ResCode) (g : BitVec 10) : (s.emit c g).rxCount = s.rxCount := rfl
@[simp] theorem State.emit_rxLen (s : State) (c : ResCode) (g : BitVec 10) : (s.emit c g).rxLen = s.rxLen := rfl
@[simp] theorem State.emit_rxCrc (s : State) (c : ResCode) (g : BitVec 10) : (s.emit c g).rxCrc = s.rxCrc := rfl
@[simp] theorem State.emit_rxFlags (s : State) (c : ResCode) (g : BitVec 10) : (s.emit c g).rxFlags = s.rxFlags := rfl
@[simp] theorem State.emit_buf (s : State) (c : ResCode) (g : BitVec 10) : (s.emit c g).buf = s.buf := rfl
@[simp] theorem State.emit_dpState (s : State) (c : ResCode) (g : BitVec 10) : (s.emit c g).dpState = s.dpState := rfl
@[simp] theorem State.emit_resCode (s : State) (c : ResCode) (g : BitVec 10) : (s.emit c g).resCode = c := rfl
@[simp] theorem State.emit_resFlags (s : State) (c : ResCode) (g : BitVec 10) : (s.emit c g).resFlags = g := rfl
@[simp] theorem State.emit_resValid (s : State) (c : ResCode) (g : BitVec 10) : (s.emit c g).resValid = true := rfl
@[simp] theorem State.emit_gcStart (s : State) (c : ResCode) (g : BitVec 10) : (s.emit c g).gcStart = s.gcStart := rfl
@[simp] theorem State.emit_params (s : State) (c : ResCode) (g : BitVec 10) : (s.emit c g).params = s.params := rfl
@[simp] theorem State.emit_inputs (s : State) (c : ResCode) (g : BitVec 10) : (s.emit c g).inputs = s.inputs := rfl
@[simp] theorem State.emit_edge (s : State) (c : ResCode) (g : BitVec 10) : (s.emit c g).edge = s.edge := rfl

/-! a frame routed (R97) -/

@[simp] theorem State.startInterpreter_rxState (s : State) : s.startInterpreter.rxState = s.rxState := rfl
@[simp] theorem State.startInterpreter_rxCount (s : State) : s.startInterpreter.rxCount = s.rxCount := rfl
@[simp] theorem State.startInterpreter_rxLen (s : State) : s.startInterpreter.rxLen = s.rxLen := rfl
@[simp] theorem State.startInterpreter_rxCrc (s : State) : s.startInterpreter.rxCrc = s.rxCrc := rfl
@[simp] theorem State.startInterpreter_rxFlags (s : State) : s.startInterpreter.rxFlags = s.rxFlags := rfl
@[simp] theorem State.startInterpreter_buf (s : State) : s.startInterpreter.buf = s.buf := rfl
@[simp] theorem State.startInterpreter_dpState (s : State) : s.startInterpreter.dpState = .wait := rfl
@[simp] theorem State.startInterpreter_resCode (s : State) : s.startInterpreter.resCode = s.resCode := rfl
@[simp] theorem State.startInterpreter_resFlags (s : State) : s.startInterpreter.resFlags = s.resFlags := rfl
@[simp] theorem State.startInterpreter_resValid (s : State) : s.startInterpreter.resValid = s.resValid := rfl
@[simp] theorem State.startInterpreter_gcStart (s : State) : s.startInterpreter.gcStart = true := rfl
@[simp] theorem State.startInterpreter_params (s : State) : s.startInterpreter.params = s.params := rfl
@[simp] theorem State.startInterpreter_inputs (s : State) : s.startInterpreter.inputs = s.inputs := rfl
@[simp] theorem State.startInterpreter_edge (s : State) : s.startInterpreter.edge = s.edge := rfl

/-! a command ended (R99) -/

@[simp] theorem State.endCommand_rxState (s : State) : s.endCommand.rxState = s.rxState := rfl
@[simp] theorem State.endCommand_rxCount (s : State) : s.endCommand.rxCount = s.rxCount := rfl
@[simp] theorem State.endCommand_rxLen (s : State) : s.endCommand.rxLen = s.rxLen := rfl
@[simp] theorem State.endCommand_rxCrc (s : State) : s.endCommand.rxCrc = s.rxCrc := rfl
@[simp] theorem State.endCommand_rxFlags (s : State) : s.endCommand.rxFlags = s.rxFlags := rfl
@[simp] theorem State.endCommand_buf (s : State) : s.endCommand.buf = s.buf := rfl
@[simp] theorem State.endCommand_dpState (s : State) : s.endCommand.dpState = .idle := rfl
@[simp] theorem State.endCommand_resCode (s : State) : s.endCommand.resCode = s.resCode := rfl
@[simp] theorem State.endCommand_resFlags (s : State) : s.endCommand.resFlags = s.resFlags := rfl
@[simp] theorem State.endCommand_resValid (s : State) : s.endCommand.resValid = s.resValid := rfl
@[simp] theorem State.endCommand_gcStart (s : State) : s.endCommand.gcStart = s.gcStart := rfl
@[simp] theorem State.endCommand_params (s : State) : s.endCommand.params = s.params := rfl
@[simp] theorem State.endCommand_inputs (s : State) : s.endCommand.inputs = s.inputs := rfl
@[simp] theorem State.endCommand_edge (s : State) : s.endCommand.edge = s.edge := rfl

/-! RESET's writes (R127) -/

@[simp] theorem State.clear_rxState (s : State) : s.clear.rxState = .awaitingPreamble := rfl
@[simp] theorem State.clear_rxCount (s : State) : s.clear.rxCount = 0 := rfl
@[simp] theorem State.clear_rxLen (s : State) : s.clear.rxLen = 0x00 := rfl
@[simp] theorem State.clear_rxCrc (s : State) : s.clear.rxCrc = Config.crcInit := rfl
@[simp] theorem State.clear_rxFlags (s : State) : s.clear.rxFlags = 0 := rfl
@[simp] theorem State.clear_buf (s : State) : s.clear.buf = s.buf := rfl
@[simp] theorem State.clear_dpState (s : State) : s.clear.dpState = .idle := rfl
@[simp] theorem State.clear_resCode (s : State) : s.clear.resCode = .success := rfl
@[simp] theorem State.clear_resFlags (s : State) : s.clear.resFlags = 0 := rfl
@[simp] theorem State.clear_resValid (s : State) : s.clear.resValid = false := rfl
@[simp] theorem State.clear_gcStart (s : State) : s.clear.gcStart = false := rfl
@[simp] theorem State.clear_params (s : State) : s.clear.params = s.params := rfl
@[simp] theorem State.clear_inputs (s : State) : s.clear.inputs = s.inputs := rfl
@[simp] theorem State.clear_edge (s : State) : s.clear.edge = s.edge := rfl

/-! the input ports driven -/

@[simp] theorem State.drive_rxState (s : State) (p : Inputs) : (s.drive p).rxState = s.rxState := rfl
@[simp] theorem State.drive_rxCount (s : State) (p : Inputs) : (s.drive p).rxCount = s.rxCount := rfl
@[simp] theorem State.drive_rxLen (s : State) (p : Inputs) : (s.drive p).rxLen = s.rxLen := rfl
@[simp] theorem State.drive_rxCrc (s : State) (p : Inputs) : (s.drive p).rxCrc = s.rxCrc := rfl
@[simp] theorem State.drive_rxFlags (s : State) (p : Inputs) : (s.drive p).rxFlags = s.rxFlags := rfl
@[simp] theorem State.drive_buf (s : State) (p : Inputs) : (s.drive p).buf = s.buf := rfl
@[simp] theorem State.drive_dpState (s : State) (p : Inputs) : (s.drive p).dpState = s.dpState := rfl
@[simp] theorem State.drive_resCode (s : State) (p : Inputs) : (s.drive p).resCode = s.resCode := rfl
@[simp] theorem State.drive_resFlags (s : State) (p : Inputs) : (s.drive p).resFlags = s.resFlags := rfl
@[simp] theorem State.drive_resValid (s : State) (p : Inputs) : (s.drive p).resValid = s.resValid := rfl
@[simp] theorem State.drive_gcStart (s : State) (p : Inputs) : (s.drive p).gcStart = s.gcStart := rfl
@[simp] theorem State.drive_params (s : State) (p : Inputs) : (s.drive p).params = s.params := rfl
@[simp] theorem State.drive_inputs (s : State) (p : Inputs) : (s.drive p).inputs = p :: s.inputs := rfl
@[simp] theorem State.drive_edge (s : State) (p : Inputs) : (s.drive p).edge = s.edge := rfl

/-! a field check (R79 to R82): only `rx_state` and `rx_flags` depend on it -/

@[simp] theorem State.check_true (s : State) (x : RxState) (f : FramingFault) : s.check true x f = s.enter x := rfl
@[simp] theorem State.check_false (s : State) (x : RxState) (f : FramingFault) : s.check false x f = s.raise f := rfl

@[simp] theorem State.check_rxCount (s : State) (ok : Bool) (x : RxState) (f : FramingFault) :
    (s.check ok x f).rxCount = s.rxCount := by cases ok <;> rfl
@[simp] theorem State.check_rxLen (s : State) (ok : Bool) (x : RxState) (f : FramingFault) :
    (s.check ok x f).rxLen = s.rxLen := by cases ok <;> rfl
@[simp] theorem State.check_rxCrc (s : State) (ok : Bool) (x : RxState) (f : FramingFault) :
    (s.check ok x f).rxCrc = s.rxCrc := by cases ok <;> rfl
@[simp] theorem State.check_buf (s : State) (ok : Bool) (x : RxState) (f : FramingFault) :
    (s.check ok x f).buf = s.buf := by cases ok <;> rfl
@[simp] theorem State.check_dpState (s : State) (ok : Bool) (x : RxState) (f : FramingFault) :
    (s.check ok x f).dpState = s.dpState := by cases ok <;> rfl
@[simp] theorem State.check_resCode (s : State) (ok : Bool) (x : RxState) (f : FramingFault) :
    (s.check ok x f).resCode = s.resCode := by cases ok <;> rfl
@[simp] theorem State.check_resFlags (s : State) (ok : Bool) (x : RxState) (f : FramingFault) :
    (s.check ok x f).resFlags = s.resFlags := by cases ok <;> rfl
@[simp] theorem State.check_resValid (s : State) (ok : Bool) (x : RxState) (f : FramingFault) :
    (s.check ok x f).resValid = s.resValid := by cases ok <;> rfl
@[simp] theorem State.check_gcStart (s : State) (ok : Bool) (x : RxState) (f : FramingFault) :
    (s.check ok x f).gcStart = s.gcStart := by cases ok <;> rfl
@[simp] theorem State.check_params (s : State) (ok : Bool) (x : RxState) (f : FramingFault) :
    (s.check ok x f).params = s.params := by cases ok <;> rfl
@[simp] theorem State.check_inputs (s : State) (ok : Bool) (x : RxState) (f : FramingFault) :
    (s.check ok x f).inputs = s.inputs := by cases ok <;> rfl
@[simp] theorem State.check_edge (s : State) (ok : Bool) (x : RxState) (f : FramingFault) :
    (s.check ok x f).edge = s.edge := by cases ok <;> rfl

/-! a result with its re-arm (R95, R96, R99) -/

theorem State.finish_eq (s : State) (c : ResCode) (g : BitVec 10) : s.finish c g = (s.emit c g).rearm := rfl

end Sys2Proof.Machine
end

