-- ==== Sys2Proof/Laws/Ops.lean ====
section
/-! SUPPORT. One lemma for each shared operation that says once what it can do. -/

namespace Sys2Proof.Machine

/-! ## Reads -/

/-- A read of a listed entry gives it. -/
theorem State.readBuf_of_some {s : State} {a : Nat} {b : Byte} (h : s.buf.read a = some b) : s.readBuf a = b := by
  simp [State.readBuf, h]

theorem State.ports_cons {s : State} {p : Inputs} {rest : List Inputs} (h : s.inputs = p :: rest) : s.ports = p := by
  simp [State.ports, h]

@[simp] theorem State.ports_drive (s : State) (p : Inputs) : (s.drive p).ports = p := rfl

/-- The opcode of a frame whose byte 5 has been stored. -/
theorem State.opcode_of_some {s : State} {b : Byte} (h : s.buf.read 5 = some b) : s.opcode = b :=
  State.readBuf_of_some h

/-! ## Storing accepts, checks, results -/

/-- A storing accept below the cap: the edge's default writes, STORE, and the operation's other writes. -/
theorem storing_of_lt {s : State} {b : Byte} {k : State → State} (h : s.rxCount.toNat < s.params.cap) :
    storing s b k = .next (k (s.tick.storeByte b)) := by
  simp [storing, h]

/-- A storing accept at or above the cap stops. -/
theorem storing_of_le {s : State} {b : Byte} {k : State → State} (h : s.params.cap ≤ s.rxCount.toNat) :
    storing s b k = .fault (.bufferAddress s.rxCount.toNat) := by
  simp [storing, Nat.not_lt.mpr h]

/-- If a storing accept gives a next state, it stored below the cap. -/
theorem storing_next {s t : State} {b : Byte} {k : State → State} (h : storing s b k = .next t) :
    s.rxCount.toNat < s.params.cap ∧ t = k (s.tick.storeByte b) := by
  unfold storing at h
  split at h
  · exact ⟨‹_›, (Host.Outcome.next.inj h).symm⟩
  · cases h

/-- STORE counts exactly while the counter is below 256 (R10, R17). -/
theorem count_succ_toNat {c : Count} (h : c.toNat < 256) : (c + 1).toNat = c.toNat + 1 := by
  have h1 : (1 : Count).toNat = 1 := rfl
  rw [BitVec.toNat_add, h1]
  omega

/-- The outcome of a field check. -/
theorem State.check_cases (s : State) (ok : Bool) (x : RxState) (f : FramingFault) :
    (ok = true ∧ s.check ok x f = s.enter x) ∨ (ok = false ∧ s.check ok x f = s.raise f) := by
  cases ok <;> simp

/-! ## The selector word -/

/-- What the next edge's selector word says (R143), row by row. -/
theorem rowReset_hit (s : State) : rowReset.hit s.sel = s.ports.rst := by
  simp only [SelRow.hit, rowReset, State.sel]
  generalize s.ports.rst = a, s.ports.rxValid = b, s.rxReady = c, s.ports.gcDone = d
  cases s.dpState <;> cases s.rxState <;> cases a <;> cases b <;> cases c <;> cases d <;> decide

theorem rowDispatchFaulted_hit (s : State) : rowDispatchFaulted.hit s.sel
    = (!s.ports.rst && decide (s.dpState = .idle) && decide (s.rxState = .faulted)) := by
  simp only [SelRow.hit, rowDispatchFaulted, State.sel]
  generalize s.ports.rst = a, s.ports.rxValid = b, s.rxReady = c, s.ports.gcDone = d
  cases s.dpState <;> cases s.rxState <;> cases a <;> cases b <;> cases c <;> cases d <;> decide

theorem rowDispatchComplete_hit (s : State) : rowDispatchComplete.hit s.sel
    = (!s.ports.rst && decide (s.dpState = .idle) && decide (s.rxState = .complete)) := by
  simp only [SelRow.hit, rowDispatchComplete, State.sel]
  generalize s.ports.rst = a, s.ports.rxValid = b, s.rxReady = c, s.ports.gcDone = d
  cases s.dpState <;> cases s.rxState <;> cases a <;> cases b <;> cases c <;> cases d <;> decide

theorem rowInterpDone_hit (s : State) : rowInterpDone.hit s.sel
    = (!s.ports.rst && decide (s.dpState = .wait) && s.ports.gcDone) := by
  simp only [SelRow.hit, rowInterpDone, State.sel]
  generalize s.ports.rst = a, s.ports.rxValid = b, s.rxReady = c, s.ports.gcDone = d
  cases s.dpState <;> cases s.rxState <;> cases a <;> cases b <;> cases c <;> cases d <;> decide

theorem rowWaitHold_hit (s : State) : rowWaitHold.hit s.sel
    = (!s.ports.rst && decide (s.dpState = .wait) && !s.ports.gcDone) := by
  simp only [SelRow.hit, rowWaitHold, State.sel]
  generalize s.ports.rst = a, s.ports.rxValid = b, s.rxReady = c, s.ports.gcDone = d
  cases s.dpState <;> cases s.rxState <;> cases a <;> cases b <;> cases c <;> cases d <;> decide

theorem rowAcceptPreamble_hit (s : State) : rowAcceptPreamble.hit s.sel
    = (s.accepts && decide (s.rxState = .awaitingPreamble)) := by
  simp only [SelRow.hit, rowAcceptPreamble, State.sel, State.accepts]
  generalize s.ports.rst = a, s.ports.rxValid = b, s.rxReady = c, s.ports.gcDone = d
  cases s.dpState <;> cases s.rxState <;> cases a <;> cases b <;> cases c <;> cases d <;> decide

theorem rowAcceptLen_hit (s : State) : rowAcceptLen.hit s.sel
    = (s.accepts && decide (s.rxState = .awaitingLength)) := by
  simp only [SelRow.hit, rowAcceptLen, State.sel, State.accepts]
  generalize s.ports.rst = a, s.ports.rxValid = b, s.rxReady = c, s.ports.gcDone = d
  cases s.dpState <;> cases s.rxState <;> cases a <;> cases b <;> cases c <;> cases d <;> decide

theorem rowAcceptSeq_hit (s : State) : rowAcceptSeq.hit s.sel
    = (s.accepts && decide (s.rxState = .awaitingSequence)) := by
  simp only [SelRow.hit, rowAcceptSeq, State.sel, State.accepts]
  generalize s.ports.rst = a, s.ports.rxValid = b, s.rxReady = c, s.ports.gcDone = d
  cases s.dpState <;> cases s.rxState <;> cases a <;> cases b <;> cases c <;> cases d <;> decide

theorem rowAcceptAddr_hit (s : State) : rowAcceptAddr.hit s.sel
    = (s.accepts && decide (s.rxState = .awaitingAddress)) := by
  simp only [SelRow.hit, rowAcceptAddr, State.sel, State.accepts]
  generalize s.ports.rst = a, s.ports.rxValid = b, s.rxReady = c, s.ports.gcDone = d
  cases s.dpState <;> cases s.rxState <;> cases a <;> cases b <;> cases c <;> cases d <;> decide

theorem rowAcceptAccumulating_hit (s : State) : rowAcceptAccumulating.hit s.sel
    = (s.accepts && decide (s.rxState = .accumulating)) := by
  simp only [SelRow.hit, rowAcceptAccumulating, State.sel, State.accepts]
  generalize s.ports.rst = a, s.ports.rxValid = b, s.rxReady = c, s.ports.gcDone = d
  cases s.dpState <;> cases s.rxState <;> cases a <;> cases b <;> cases c <;> cases d <;> decide

/-- A byte is accepted only in a receiving state (R28, R77). -/
theorem State.receiving_of_accepts {s : State} (h : s.accepts = true) : s.rxState.receiving = true := by
  simp only [State.accepts, State.rxReady, Bool.and_eq_true] at h
  exact h.2.2

/-! ## The step -/

/-- If a step gives a next state, it ran the operation the edge decodes to. -/
theorem step_next {s t : State} (h : step s = .next t) :
    ∃ i, s.fetch = .ok i ∧ exec i s = .next t := by
  unfold step at h
  split at h
  · exact ⟨_, ‹_›, h⟩
  · cases h

/-- What the fetch gives: the decoded operation of an edge that does not select two. -/
theorem State.fetch_ok {s : State} {i : Instr} (h : s.fetch = .ok i) :
    twoParts s.params s.edgeWord = false ∧ decode s.params (.edge s.edgeWord) = .ok i := by
  unfold State.fetch at h
  split at h
  · cases h
  · split at h
    · rename_i hj
      exact ⟨by simp_all, hj.trans (by simpa using h)⟩
    · cases h

end Sys2Proof.Machine
end

