-- ==== Sys2Proof/Laws/PerInstr.lean ====
section
/-! SUPPORT. Statements made per operation: the word the encoder writes matches the operation's row of the table. -/

namespace Sys2Proof.Laws.RowOfWord

/-- R143: `(SEL & mask) == match` for the word of an operation that has a selector pattern. -/
def Statement (i : Instr) : Prop :=
  ∀ (p : Params) (e : EdgeWord) (r : SelRow), encode p i = some (.edge e) → i.row = some r → r.hit e.sel = true

theorem of_sel {i : Instr} {r : SelRow} (hr : i.row = some r)
    (h : ∀ p e, encode p i = some (.edge e) → r.hit e.sel = true) : Statement i :=
  fun p e r' he hr' => by
    obtain rfl : r = r' := Option.some.inj (hr.symm.trans hr')
    exact h p e he

theorem of_none {i : Instr} (hr : i.row = none) : Statement i :=
  fun _ _ r _ h => by rw [hr] at h; cases h

theorem sel_hit {p : Params} {i : Instr} {r : SelRow} (sel : Byte) (hs : r.hit sel = true)
    (h : ∃ e0 : EdgeWord, encode p i = some (.edge e0) ∧ e0.sel = sel) (e : EdgeWord)
    (he : encode p i = some (.edge e)) : r.hit e.sel = true := by
  obtain ⟨e0, h0, rfl⟩ := h
  obtain rfl : e0 = e := by simpa using h0.symm.trans he
  exact hs

theorem gcode : Statement .gcode := of_none rfl
theorem unknown (opc : Byte) : Statement (.unknown opc) := of_none rfl
theorem reset : Statement .reset := of_sel rfl fun _ => sel_hit 0x80 (by decide) ⟨_, rfl, rfl⟩
theorem dispatchFaulted : Statement .dispatchFaulted := of_sel rfl fun _ => sel_hit 0x30 (by decide) ⟨_, rfl, rfl⟩
theorem dispatchUnknown (opc : Byte) : Statement (.dispatchUnknown opc) :=
  of_sel rfl fun _ => sel_hit 0x28 (by decide) ⟨_, rfl, rfl⟩
theorem dispatchGcode : Statement .dispatchGcode := of_sel rfl fun _ => sel_hit 0x28 (by decide) ⟨_, rfl, rfl⟩
theorem interpDone (f : BitVec 3) : Statement (.interpDone f) :=
  of_sel rfl fun _ => sel_hit 0x69 (by decide) ⟨_, rfl, rfl⟩
theorem waitHold : Statement .waitHold := of_sel rfl fun _ => sel_hit 0x68 (by decide) ⟨_, rfl, rfl⟩
theorem acceptPre0 (b : Byte) : Statement (.acceptPre0 b) :=
  of_sel rfl fun _ => sel_hit 0x06 (by decide) ⟨_, rfl, rfl⟩
theorem acceptPre1 (b : Byte) : Statement (.acceptPre1 b) :=
  of_sel rfl fun _ => sel_hit 0x06 (by decide) ⟨_, rfl, rfl⟩
theorem acceptLen (b : Byte) : Statement (.acceptLen b) := of_sel rfl fun _ => sel_hit 0x0E (by decide) ⟨_, rfl, rfl⟩
theorem acceptSeq (b : Byte) : Statement (.acceptSeq b) := of_sel rfl fun _ => sel_hit 0x16 (by decide) ⟨_, rfl, rfl⟩
theorem acceptAddr (b : Byte) : Statement (.acceptAddr b) :=
  of_sel rfl fun _ => sel_hit 0x1E (by decide) ⟨_, rfl, rfl⟩
theorem acceptOversize (b : Byte) : Statement (.acceptOversize b) :=
  of_sel rfl fun _ => sel_hit 0x26 (by decide) ⟨_, rfl, rfl⟩
theorem acceptCrc (b : Byte) : Statement (.acceptCrc b) := of_sel rfl fun _ => sel_hit 0x26 (by decide) ⟨_, rfl, rfl⟩
theorem acceptBody (b : Byte) : Statement (.acceptBody b) :=
  of_sel rfl fun _ => sel_hit 0x26 (by decide) ⟨_, rfl, rfl⟩
theorem rearm : Statement .rearm := of_none rfl
theorem idle : Statement .idle := of_none rfl

end Sys2Proof.Laws.RowOfWord
end

