-- ==== Sys2Proof/Tests/Slice0.lean ====
section
/-! SUPPORT. Small tests, each expected value from 95_test_vectors.md or a rule's example (named in the comment), and for
every statement with hypotheses a concrete state that meets them. -/

/- The longest evaluation by decide is the CRC of a ten-byte frame. -/
set_option maxRecDepth 8000

namespace Sys2Proof.Tests

open Sys2Proof Sys2Proof.Machine

/-! ## Helpers -/

/-- The next state, if there is one. -/
def after : Outcome → Option State
  | .next t => some t
  | .fault _ => none
  | .refused _ => none

/-- The state after a step, or the state itself where the step stops. -/
def stepD (s : State) : State := (after (step s)).getD s

theorem step_stepD {s : State} (h : (after (step s)).isSome = true) : step s = .next (stepD s) := by
  unfold stepD
  cases hs : step s <;> simp_all [after]

/-- No reset, no byte, no `gc_done`. -/
def quiet : Inputs := quietInputs
/-- The byte `b` is offered. -/
def offer (b : Byte) : Inputs := { quietInputs with rxValid := true, rxData := b }
/-- The interpreter answers with flags `g`. -/
def done (g : BitVec 3) : Inputs := { quietInputs with gcDone := true, gcFlags := g }
/-- `rst = 1`. -/
def resetting : Inputs := { quietInputs with rst := true }

/-- Frame F2 of 95_test_vectors.md: "G90". -/
def f2 : List Byte := [0xAA, 0x55, 0x07, 0x05, 0x10, 0x01, 0x47, 0x39, 0x30, 0x8A]

/-- The buffer after these bytes. -/
def image (l : List Byte) : Memory := l.zipIdx.map fun x => (x.2, x.1)

/-- The block after `n` bytes of F2, in receiver state `x`. -/
def atF2 (n : Nat) (x : RxState) (len crc : Byte) (inputs : List Inputs) : State :=
  { State.reset with
    rxState := x, rxCount := BitVec.ofNat 9 n, rxLen := len, rxCrc := crc, buf := image (f2.take n), inputs := inputs }

def armed (inputs : List Inputs) : State := atF2 0 .awaitingPreamble 0 0 inputs
def settled (inputs : List Inputs) : State := atF2 10 .complete 7 0x8A inputs
def waiting (inputs : List Inputs) : State := { settled inputs with dpState := .wait }
/-- V-LEN-3: length byte 3. -/
def faulted (inputs : List Inputs) : State :=
  { atF2 3 .faulted 3 0xB1 inputs with buf := image [0xAA, 0x55, 0x03], rxFlags := 0b000010 }
/-- V-OVS-1: `P_CAP = 8`, eight bytes of F2 stored. -/
def full (inputs : List Inputs) : State :=
  { atF2 8 .accumulating 7 0x51 inputs with params := { Config.reference with cap := 8 } }
/-- F4: an unknown opcode. -/
def unknownFrame (inputs : List Inputs) : State :=
  { atF2 7 .complete 4 0xBF inputs with buf := image [0xAA, 0x55, 0x04, 0x05, 0x10, 0x02, 0xBF] }

/-! ## Well-formedness and decode -/

theorem test_wellFormed_refuses_unknown : Instr.wellFormed Config.reference (.unknown 0x01) = false := by decide
theorem test_wellFormed_refuses_dispatchUnknown : Instr.wellFormed Config.reference (.dispatchUnknown 0x01) = false := by
  decide
theorem test_wellFormed_admits_unknown : Instr.wellFormed Config.reference (.unknown 0x02) = true := by decide

-- R143 and opcode_table.json: the words are the table's patterns with the don't-care bits filled in by hand.
theorem test_decode_reset : decode Config.reference (.edge (.blank 0b11111111)) = .ok .reset := by decide
theorem test_decode_dispatchFaulted : decode Config.reference (.edge (.blank 0b00110101)) = .ok .dispatchFaulted := by decide
theorem test_decode_dispatchUnknown :
    decode Config.reference (.edge { EdgeWord.blank 0b00101000 with opcode := 0x02 }) = .ok (.dispatchUnknown 0x02) := by
  decide
theorem test_decode_dispatchGcode :
    decode Config.reference (.edge { EdgeWord.blank 0b00101000 with opcode := 0x01 }) = .ok .dispatchGcode := by decide
theorem test_decode_interpDone :
    decode Config.reference (.edge { EdgeWord.blank 0b01101001 with gcFlags := 0b101 }) = .ok (.interpDone 0b101) := by decide
theorem test_decode_waitHold : decode Config.reference (.edge (.blank 0b01101100)) = .ok .waitHold := by decide
theorem test_decode_acceptPre0 : decode Config.reference (.edge (.accept 0b00000110 0xAA 0 0)) = .ok (.acceptPre0 0xAA) := by
  decide
theorem test_decode_acceptPre1 : decode Config.reference (.edge (.accept 0b00000111 0x55 1 0)) = .ok (.acceptPre1 0x55) := by
  decide
theorem test_decode_acceptLen : decode Config.reference (.edge (.accept 0b00001110 0x07 2 0)) = .ok (.acceptLen 0x07) := by
  decide
theorem test_decode_acceptSeq : decode Config.reference (.edge (.accept 0b00010110 0x05 3 7)) = .ok (.acceptSeq 0x05) := by
  decide
theorem test_decode_acceptAddr : decode Config.reference (.edge (.accept 0b00011110 0x10 4 7)) = .ok (.acceptAddr 0x10) := by
  decide
theorem test_decode_acceptBody : decode Config.reference (.edge (.accept 0b00100110 0x01 5 7)) = .ok (.acceptBody 0x01) := by
  decide
theorem test_decode_acceptCrc : decode Config.reference (.edge (.accept 0b00100110 0x8A 9 7)) = .ok (.acceptCrc 0x8A) := by
  decide
theorem test_decode_acceptOversize :
    decode { Config.reference with cap := 8 } (.edge (.accept 0b00100110 0x30 8 7)) = .ok (.acceptOversize 0x30) := by decide
-- the cap is tested before the completion (R120.3): offset 8 of an 9-byte frame with P_CAP = 8
theorem test_decode_oversize_before_crc :
    decode { Config.reference with cap := 8 } (.edge (.accept 0b00100110 0x30 8 6)) = .ok (.acceptOversize 0x30) := by decide
theorem test_decode_idle : decode Config.reference (.edge (.blank 0b00000010)) = .ok .idle := by decide
theorem test_decode_unused : decode Config.reference (.edge (.blank 0b00111000)) = .error .unusedRxState := by decide
theorem test_decode_gcode : decode Config.reference (.opcode 0x01) = .ok .gcode := by decide
theorem test_decode_unknown : decode Config.reference (.opcode 0xFF) = .ok (.unknown 0xFF) := by decide

-- The table's words, as the host asks for them.
theorem test_tableWords : [0x01, 0x80, 0x30, 0x28, 0x41, 0x40, 0x06, 0x0E, 0x16, 0x1E, 0x26].map (decodeTableWord 8) =
    [some .gcode, some .reset, some .dispatchFaulted, some (.dispatchUnknown 0), some (.interpDone 0), some .waitHold,
      some (.acceptPre0 0), some (.acceptLen 0), some (.acceptSeq 0), some (.acceptAddr 0), some (.acceptBody 0)] := by
  decide
theorem test_tableWords_step : ([0x01, 0x80, 0x30, 0x28, 0x41, 0x40, 0x06, 0x0E, 0x16, 0x1E, 0x26].all fun w =>
    let s := State.reset.withFetchWord 8 w
    (after (step s)).isSome && after (step s) == (decodeTableWord 8 w).bind fun i => after (exec i s)) = true := by
  decide

/-! ## The CRC-8 generator (V-CRC-2, V-CRC-4, F2's running values) -/

theorem test_crc8Step : [0x00, 0x01, 0x80, 0xFF, 0xAA].map (crc8Step 0) = [0x00, 0x31, 0x7A, 0xAC, 0x27] := by
  decide
theorem test_crc8_check : crc8 [0x31, 0x32, 0x33, 0x34, 0x35, 0x36, 0x37, 0x38, 0x39] = 0xA2 := by
  decide
theorem test_crc8_f2 : crc8 (f2.take 9) = 0x8A ∧ crc8 f2 = 0x00 := by decide

/-! ## One step of each operation -/

/-- The receiver's registers, as the vectors list them. -/
def rx (s : State) : RxState × Count × Byte × Byte × BitVec 6 := (s.rxState, s.rxCount, s.rxLen, s.rxCrc, s.rxFlags)
/-- The dispatcher's registers, as the vectors list them. -/
def dp (s : State) : DpState × BitVec 2 × BitVec 10 × Bool × Bool :=
  (s.dpState, s.resCode.code, s.resFlags, s.resValid, s.gcStart)
/-- The receiver as reset and the re-arm leave it. -/
def rxClear : RxState × Count × Byte × Byte × BitVec 6 := (.awaitingPreamble, 0, 0, 0, 0)

-- V-PRE-1
theorem test_acceptPre0 : (after (step (armed [offer 0xAA]))).map rx = some (.awaitingPreamble, 1, 0, 0x27, 0) := by decide
-- V-PRE-3, V-PRE-4
theorem test_acceptPre1 : (after (step (atF2 1 .awaitingPreamble 0 0x27 [offer 0x55]))).map rx =
    some (.awaitingLength, 2, 0, 0x9A, 0) := by decide
theorem test_acceptPre1_bad : (after (step { atF2 1 .awaitingPreamble 0 0 [offer 0x55] with buf := [(0, 0x00)] })).map rx =
    some (.faulted, 2, 0, 0x8B, 0x01) := by decide
-- V-LEN-2, V-LEN-4
theorem test_acceptLen : (after (step (atF2 2 .awaitingLength 0 0x9A [offer 0xFD]))).map rx =
    some (.awaitingSequence, 3, 253, 0x2C, 0) := by decide
theorem test_acceptLen_bad : (after (step (atF2 2 .awaitingLength 0 0x9A [offer 0xFE]))).map rx =
    some (.faulted, 3, 254, 0x7F, 0x02) := by decide
-- V-SEQ-1, V-SEQ-2
theorem test_acceptSeq : (after (step (atF2 3 .awaitingSequence 7 0x75 [offer 0x05]))).map rx =
    some (.awaitingAddress, 4, 7, 0xF8, 0) := by decide
theorem test_acceptSeq_bad : (after (step (atF2 3 .awaitingSequence 7 0x75 [offer 0x06]))).map rx =
    some (.faulted, 4, 7, 0xAB, 0x04) := by decide
-- V-ADR-1, V-ADR-2
theorem test_acceptAddr : (after (step (atF2 4 .awaitingAddress 7 0xF8 [offer 0x10]))).map rx =
    some (.accumulating, 5, 7, 0x78, 0) := by decide
theorem test_acceptAddr_bad : (after (step (atF2 4 .awaitingAddress 7 0xF8 [offer 0x11]))).map rx =
    some (.faulted, 5, 7, 0x49, 0x08) := by decide
-- V-BOD-1, V-BOD-2
theorem test_acceptBody : (after (step (atF2 5 .accumulating 7 0x78 [offer 0x01]))).map rx =
    some (.accumulating, 6, 7, 0x70, 0) := by decide
theorem test_acceptBody_last : (after (step (atF2 8 .accumulating 7 0x51 [offer 0x30]))).map rx =
    some (.accumulating, 9, 7, 0x8A, 0) := by decide
-- V-CRC-A, V-CRC-B
theorem test_acceptCrc : (after (step (atF2 9 .accumulating 7 0x8A [offer 0x8A]))).map rx =
    some (.complete, 10, 7, 0x8A, 0) := by decide
theorem test_acceptCrc_bad : (after (step (atF2 9 .accumulating 7 0x8A [offer 0x8B]))).map rx =
    some (.faulted, 10, 7, 0x8A, 0x10) := by decide
-- V-OVS-1: the byte is not written
theorem test_acceptOversize : (after (step (full [offer 0x30]))).map (fun t => (rx t, t.buf.read 8)) =
    some ((.faulted, 8, 7, 0x51, 0x20), none) := by decide
-- V-DSP-8, V-RA-1: a byte offered at the same edge is not taken
theorem test_dispatchFaulted : (after (step (faulted [offer 0xAA]))).any (fun t =>
    rx t == rxClear && dp t == (.idle, 1, 0x002, true, false) && t.buf == image [0xAA, 0x55, 0x03]) = true := by decide
-- V-DSP-2
theorem test_dispatchUnknown : (after (step (unknownFrame [quiet]))).any (fun t =>
    rx t == rxClear && dp t == (.idle, 2, 0x040, true, false)) = true := by decide
-- V-DSP-4
theorem test_dispatchGcode : (after (step (settled [quiet]))).any (fun t =>
    rx t == (.complete, 10, 7, 0x8A, 0) && dp t == (.wait, 0, 0, false, true)) = true := by decide
-- V-DSP-5
theorem test_waitHold : (after (step { waiting [{ quiet with gcFlags := 7 }] with gcStart := true })).any (fun t =>
    rx t == (.complete, 10, 7, 0x8A, 0) && dp t == (.wait, 0, 0, false, false)) = true := by decide
-- V-DSP-6, every value of gc_flags
theorem test_interpDone : ([0, 1, 2, 3, 4, 5, 6, 7].map fun g => (after (step (waiting [done g]))).map dp) =
    [some (.idle, 0, 0x000, true, false), some (.idle, 3, 0x080, true, false), some (.idle, 3, 0x100, true, false),
      some (.idle, 3, 0x180, true, false), some (.idle, 3, 0x200, true, false), some (.idle, 3, 0x280, true, false),
      some (.idle, 3, 0x300, true, false), some (.idle, 3, 0x380, true, false)] := by decide
-- V-DSP-7
theorem test_idle : (after (step { armed [done 7] with resCode := .unknownCommand, resFlags := 0x040 })).any
    (fun t => rx t == rxClear && dp t == (.idle, 2, 0x040, false, false)) = true := by decide
-- V-RST-2
theorem test_reset : (after (step { waiting [{ done 5 with rst := true, rxValid := true, rxData := 0xAA }] with
    resCode := .unknownCommand, resFlags := 0x040 })).any (fun t =>
    rx t == rxClear && dp t == (.idle, 0, 0, false, false) && t.buf.read 5 == some 0x01) = true := by decide
-- V-RA-2
theorem test_rearm : (after (exec .rearm (waiting []))).any (fun t => rx t == rxClear && t.buf == image f2) = true := by
  decide
-- R56: the classes do what the dispatcher's operations do
theorem test_gcode : (after (exec .gcode (settled [quiet]))).map dp = some (.wait, 0, 0, false, true) := by decide
theorem test_unknown : (after (exec (.unknown 2) (unknownFrame [quiet]))).map dp = some (.idle, 2, 0x040, true, false) := by
  decide
-- P1, between edges 10 and 12
theorem test_outputs : let s := settled [{ quiet with plIdx := 1 }]
    (s.frOpcode, s.frLen, s.plLen, s.plData, s.plDataAt 0, s.plDataAt 2, s.rxReady) =
      (0x01, 7, 3, 0x39, 0x47, 0x30, false) := by decide

/-! ## States that meet the statements' hypotheses -/

theorem Inv.withInputs {s : State} (h : s.Inv) (l : List Inputs) : ({ s with inputs := l } : State).Inv :=
  ⟨h.legal, h.receiver, h.buffer, h.header, h.crc, h.trailer, h.dispatcher, h.result, h.pulses⟩

/-- The invariant of a state with no command out, no pulse and no `bad_crc`, part by part. -/
theorem Inv.of_parts {s : State} (h1 : s.params.legal) (h2 : s.ReceiverShape) (h3 : s.BufferOk) (h4 : s.HeaderOk)
    (h5 : s.RunningCrc) (h6 : s.rxState = .complete → s.buf.read (s.rxLen.toNat + 2) = some s.rxCrc)
    (h7 : s.rxFlags ≠ FramingFault.badCrc.mask) (h8 : s.dpState = .idle) (h9 : s.resCode = .success ∧ s.resFlags = 0)
    (h10 : s.resValid = false ∧ s.gcStart = false) : s.Inv :=
  ⟨h1, h2, h3, h4, h5, ⟨h6, fun _ h => absurd h h7⟩, fun h => by simp [h8] at h, by simp [State.ResultOk, h9],
    ⟨fun h => by simp [h10] at h, fun h => by simp [h10] at h⟩⟩

theorem inv_armed (l : List Inputs) : (armed l).Inv :=
  Inv.withInputs (s := armed []) (Inv.of_parts (by decide) (by simp only [State.ReceiverShape, armed, atF2]; decide)
    (by unfold State.BufferOk; decide) (by unfold State.HeaderOk; decide) (by unfold State.RunningCrc; decide)
    (by decide) (by decide) (by decide) (by decide) (by decide)) l

theorem inv_one (l : List Inputs) : (atF2 1 .awaitingPreamble 0 0x27 l).Inv :=
  Inv.withInputs (s := atF2 1 .awaitingPreamble 0 0x27 []) (Inv.of_parts (by decide)
    (by simp only [State.ReceiverShape, atF2]; decide) (by unfold State.BufferOk; decide) (by unfold State.HeaderOk; decide)
    (by unfold State.RunningCrc; decide) (by decide) (by decide) (by decide) (by decide) (by decide)) l

theorem inv_len (l : List Inputs) : (atF2 2 .awaitingLength 0 0x9A l).Inv :=
  Inv.withInputs (s := atF2 2 .awaitingLength 0 0x9A []) (Inv.of_parts (by decide)
    (by simp only [State.ReceiverShape, atF2]; decide) (by unfold State.BufferOk; decide) (by unfold State.HeaderOk; decide)
    (by unfold State.RunningCrc; decide) (by decide) (by decide) (by decide) (by decide) (by decide)) l

theorem inv_seq (l : List Inputs) : (atF2 3 .awaitingSequence 7 0x75 l).Inv :=
  Inv.withInputs (s := atF2 3 .awaitingSequence 7 0x75 []) (Inv.of_parts (by decide)
    (by simp only [State.ReceiverShape, atF2]; decide) (by unfold State.BufferOk; decide) (by unfold State.HeaderOk; decide)
    (by unfold State.RunningCrc; decide) (by decide) (by decide) (by decide) (by decide) (by decide)) l

theorem inv_addr (l : List Inputs) : (atF2 4 .awaitingAddress 7 0xF8 l).Inv :=
  Inv.withInputs (s := atF2 4 .awaitingAddress 7 0xF8 []) (Inv.of_parts (by decide)
    (by simp only [State.ReceiverShape, atF2]; decide) (by unfold State.BufferOk; decide) (by unfold State.HeaderOk; decide)
    (by unfold State.RunningCrc; decide) (by decide) (by decide) (by decide) (by decide) (by decide)) l

theorem inv_settled (l : List Inputs) : (settled l).Inv :=
  Inv.withInputs (s := settled []) (Inv.of_parts (by decide) (by simp only [State.ReceiverShape, settled, atF2]; decide)
    (by unfold State.BufferOk; decide) (by unfold State.HeaderOk; decide) (by unfold State.RunningCrc; decide)
    (by decide) (by decide) (by decide) (by decide) (by decide)) l

theorem inv_faulted (l : List Inputs) : (faulted l).Inv :=
  Inv.withInputs (s := faulted []) (Inv.of_parts (by decide)
    (by simp only [State.ReceiverShape, State.FaultShape, faulted, atF2]; decide)
    (by unfold State.BufferOk; decide) (by unfold State.HeaderOk; decide) (by unfold State.RunningCrc; decide)
    (by decide) (by decide) (by decide) (by decide) (by decide)) l

theorem inv_full (l : List Inputs) : (full l).Inv :=
  Inv.withInputs (s := full []) (Inv.of_parts (by decide) (by simp only [State.ReceiverShape, full, atF2]; decide)
    (by unfold State.BufferOk; decide) (by unfold State.HeaderOk; decide) (by unfold State.RunningCrc; decide)
    (by decide) (by decide) (by decide) (by decide) (by decide)) l

theorem inv_unknownFrame (l : List Inputs) : (unknownFrame l).Inv :=
  Inv.withInputs (s := unknownFrame []) (Inv.of_parts (by decide)
    (by simp only [State.ReceiverShape, unknownFrame, atF2]; decide)
    (by unfold State.BufferOk; decide) (by unfold State.HeaderOk; decide) (by unfold State.RunningCrc; decide)
    (by decide) (by decide) (by decide) (by decide) (by decide)) l

theorem inv_waiting (l : List Inputs) : (waiting l).Inv :=
  have h := inv_settled l
  ⟨h.legal, h.receiver, h.buffer, h.header, h.crc, h.trailer, fun _ => ⟨rfl, rfl⟩, h.result,
    ⟨fun hv => (Bool.false_ne_true hv).elim, fun _ => rfl⟩⟩

/-! One witness for each statement of Certificates/Slice0/Obligations.lean that has hypotheses, under its name. -/

theorem witness_Crc8ResidueIsZero : (settled []).Inv ∧ (settled []).rxState = .complete := ⟨inv_settled [], rfl⟩

theorem witness_OneWrongByteChangesTheCrc : (0x30 : Byte) ≠ 0x31 := by decide

theorem witness_DecodeOfEncode : Config.reference.legal ∧ Instr.wellFormed Config.reference (.unknown 0x02) = true ∧
    Instr.unknown 0x02 ≠ .rearm ∧ encode Config.reference (.unknown 0x02) = some (.opcode 0x02) := by decide

theorem witness_StepRunsTheDecodedOperation : let s := armed [offer 0xAA]
    decode s.params (.edge s.edgeWord) = .ok (.acceptPre0 0xAA) ∧ twoParts s.params s.edgeWord = false := by decide

theorem witness_SelectionIsRuleSixtySix : (settled [quiet]).rule66 = [.dispatchGcode] ∧ (settled [quiet]).Inv ∧
    (armed [quiet]).rule66 = [.idle] ∧
    2 ≤ ({ waiting [offer 1] with rxState := .accumulating } : State).rule66.length :=
  ⟨by decide, inv_settled _, by decide, by decide⟩

theorem witness_TwoPartsOnlyInUnreachableWait : let s := { waiting [offer 1] with rxState := .accumulating }
    twoParts s.params s.edgeWord = true := by decide

theorem witness_OpcodeClassesDemultiplex : let s := settled [quiet]
    s.ports.rst = false ∧ s.dpState = .idle ∧ s.rxState = .complete := by decide

theorem witness_AcceptPre0TakesAnyByte : let s := armed [offer 0xAA]
    s.params.legal ∧ s.rxCount.toNat < s.params.cap ∧ receiverRow s.params s.edgeWord = some (.acceptPre0 0xAA) := by decide

/-- The last address of the buffer, `P_CAP - 1`. -/
theorem witness_storing_at_the_last_address : let s := { armed [offer 0xAA] with rxCount := 255 }
    s.params.legal ∧ s.rxCount.toNat < s.params.cap ∧ s.rxCount.toNat + 1 = s.params.cap := by decide

theorem witness_AcceptPre1ChecksThePreamble : let s := atF2 1 .awaitingPreamble 0 0x27 [offer 0x55]
    s.params.legal ∧ s.rxCount.toNat < s.params.cap ∧ receiverRow s.params s.edgeWord = some (.acceptPre1 0x55) ∧
    s.readBuf 0 = s.params.pre0 := by decide

theorem witness_AcceptLenChecksTheLength : let s := atF2 2 .awaitingLength 0 0x9A [offer 0xFD]
    s.params.legal ∧ s.rxCount.toNat < s.params.cap ∧ receiverRow s.params s.edgeWord = some (.acceptLen 0xFD) ∧
    s.Inv ∧ s.rxState = .awaitingLength := ⟨by decide, by decide, by decide, inv_len _, rfl⟩

theorem witness_AcceptSeqChecksTheSequence : let s := atF2 3 .awaitingSequence 7 0x75 [offer 0x05]
    s.params.legal ∧ s.rxCount.toNat < s.params.cap ∧ receiverRow s.params s.edgeWord = some (.acceptSeq 0x05) ∧
    s.Inv ∧ s.rxState = .awaitingSequence := ⟨by decide, by decide, by decide, inv_seq _, rfl⟩

theorem witness_AcceptAddrChecksTheAddress : let s := atF2 4 .awaitingAddress 7 0xF8 [offer 0x10]
    s.params.legal ∧ s.rxCount.toNat < s.params.cap ∧ receiverRow s.params s.edgeWord = some (.acceptAddr 0x10) ∧
    s.Inv ∧ s.rxState = .awaitingAddress := ⟨by decide, by decide, by decide, inv_addr _, rfl⟩

theorem witness_AcceptBodyTakesAnyByte : let s := atF2 8 .accumulating 7 0x51 [offer 0x30]
    s.params.legal ∧ s.rxCount.toNat < s.params.cap ∧ receiverRow s.params s.edgeWord = some (.acceptBody 0x30) := by decide

theorem witness_AcceptOversizeDiscardsTheByte : (full [offer 0x30]).Inv ∧
    receiverRow (full [offer 0x30]).params (full [offer 0x30]).edgeWord = some (.acceptOversize 0x30) :=
  ⟨inv_full _, by decide⟩

theorem witness_AcceptCrcChecksTheTrailer : let s := atF2 9 .accumulating 7 0x8A [offer 0x8A]
    s.params.legal ∧ s.rxCount.toNat < s.params.cap ∧ receiverRow s.params s.edgeWord = some (.acceptCrc 0x8A) := by decide

theorem witness_StoringAcceptPastTheCapStops : (full []).params.cap ≤ (full []).rxCount.toNat := by decide

theorem witness_DispatchFaultedReportsTheFault : (faulted []).Inv ∧ (faulted []).rxState = .faulted := ⟨inv_faulted [], rfl⟩

theorem witness_ResetOverridesEverything : (waiting [resetting]).ports.rst = true := by decide

theorem witness_ResetGivesTheResetValues : (faulted [resetting]).ports.rst = true := by decide

theorem witness_FaultsHaveTheirBits : ∃ t, exec (.interpDone 0b101) (waiting [done 0b101]) = .next t := ⟨_, rfl⟩

theorem witness_OutcomeOutputsShowTheFrame : let s := settled []
    s.Inv ∧ s.rxState = .complete ∧ (2 : Byte).toNat < s.plLen.toNat := ⟨inv_settled [], rfl, by decide⟩

theorem witness_ResetMeetsTheInvariant : ({ Config.reference with cap := 7 } : Params).legal ∧
    ({ Config.reference with cap := 256 } : Params).legal := by decide

theorem witness_StepKeepsTheInvariant : (atF2 1 .awaitingPreamble 0 0x27 [offer 0x55]).Inv ∧
    step (atF2 1 .awaitingPreamble 0 0x27 [offer 0x55]) = .next (stepD (atF2 1 .awaitingPreamble 0 0x27 [offer 0x55])) :=
  ⟨inv_one _, step_stepD (by decide)⟩

theorem witness_NoStepStops : (full [offer 0x30]).Inv ∧ (waiting [quiet]).Inv := ⟨inv_full _, inv_waiting _⟩

/-! The reachable states below are run from reset under the inputs of the vectors. -/

theorem reach_armed (l : List Inputs) : Reachable (armed l) := .reset Config.reference (by decide) l 0

theorem reach_step {s : State} (hs : Reachable s) (h : (after (step s)).isSome = true) : Reachable (stepD s) :=
  .step _ _ hs (step_stepD h)

/-- V-PRE-4: two bytes, a bad preamble. -/
def badPreamble : State := stepD (stepD (armed [offer 0x00, offer 0x55]))

theorem reach_badPreamble : Reachable badPreamble := reach_step (reach_step (reach_armed _) (by decide)) (by decide)

theorem witness_ReachableStatesSatisfyTheTable : Reachable badPreamble ∧ 0 < badPreamble.rxCount.toNat :=
  ⟨reach_badPreamble, by decide⟩

/-- The state after `n` steps. -/
def runD : Nat → State → State
  | 0, s => s
  | n + 1, s => stepD (runD n s)

theorem reach_runD {s : State} (hs : Reachable s) :
    ∀ n, (∀ i < n, (after (step (runD i s))).isSome = true) → Reachable (runD n s)
  | 0, _ => hs
  | n + 1, h => reach_step (reach_runD hs n fun i hi => h i (by omega)) (h n (by omega))

/-- F4's seven bytes with the last byte `c`, received from reset: F4 itself has 0xBF. -/
def afterF4 (c : Byte) : State := runD 7 (armed ([0xAA, 0x55, 0x04, 0x05, 0x10, 0x02, c].map offer))

theorem reach_afterF4 : Reachable (afterF4 0xBF) ∧ Reachable (afterF4 0xBE) :=
  ⟨reach_runD (reach_armed _) 7 (by decide), reach_runD (reach_armed _) 7 (by decide)⟩

/-- Each kind of state that R88 speaks of, reached from reset: receiving, faulted before the CRC byte, `Complete`, and
faulted at it. -/
theorem witness_RunningCrcIsTheBufferCrc :
    (Reachable (armed []) ∧ (armed []).rxState.receiving = true) ∧
    (Reachable badPreamble ∧ badPreamble.rxState = .faulted ∧ badPreamble.rxFlags ≠ FramingFault.badCrc.mask) ∧
    (Reachable (afterF4 0xBF) ∧ (afterF4 0xBF).rxState = .complete) ∧
    (Reachable (afterF4 0xBE) ∧ (afterF4 0xBE).rxState = .faulted ∧
      (afterF4 0xBE).rxFlags = FramingFault.badCrc.mask) :=
  ⟨⟨reach_armed _, by decide⟩, ⟨reach_badPreamble, by decide, by decide⟩, ⟨reach_afterF4.1, by decide⟩,
    reach_afterF4.2, by decide, by decide⟩

theorem witness_FaultedHasExactlyOneFlag : Reachable badPreamble ∧ badPreamble.rxState = .faulted ∧
    Reachable (armed []) ∧ (armed []).rxState ≠ .faulted := ⟨reach_badPreamble, by decide, reach_armed [], by decide⟩

theorem witness_CompleteFramesAreLegal : (unknownFrame []).Inv ∧ (unknownFrame []).rxState = .complete :=
  ⟨inv_unknownFrame [], rfl⟩

theorem witness_ResultTiersNeverMix : Reachable (stepD (stepD (stepD (armed [offer 0x00, offer 0x55, quiet])))) ∧
    (stepD (stepD (stepD (armed [offer 0x00, offer 0x55, quiet])))).resCode = .badPackage :=
  ⟨reach_step (reach_step (reach_step (reach_armed _) (by decide)) (by decide)) (by decide), by decide⟩

theorem witness_StepKeepsTheBufferCanonical : (armed [offer 0xAA]).buf.wf ∧
    step (armed [offer 0xAA]) = .next (stepD (armed [offer 0xAA])) := ⟨by decide, step_stepD (by decide)⟩

theorem witness_ParametersNeverChange : step (full [offer 0x30]) = .next (stepD (full [offer 0x30])) :=
  step_stepD (by decide)

theorem witness_OnlyAcceptsWriteTheBuffer : step (armed [offer 0xAA]) = .next (stepD (armed [offer 0xAA])) ∧
    (stepD (armed [offer 0xAA])).buf.read 0 ≠ (armed [offer 0xAA]).buf.read 0 := ⟨step_stepD (by decide), by decide⟩

theorem witness_SettledReceiverChangesOnlyByRearm :
    ((settled [quiet]).rxState = .complete ∧ step (settled [quiet]) = .next (stepD (settled [quiet]))) ∧
    ((faulted [quiet]).rxState = .faulted ∧ step (faulted [quiet]) = .next (stepD (faulted [quiet]))) :=
  ⟨⟨rfl, step_stepD (by decide)⟩, rfl, step_stepD (by decide)⟩

theorem witness_PulsesLastOneInterval :
    ((faulted [quiet, offer 1]).Inv ∧ step (faulted [quiet, offer 1]) = .next (stepD (faulted [quiet, offer 1])) ∧
      step (stepD (faulted [quiet, offer 1])) = .next (stepD (stepD (faulted [quiet, offer 1]))) ∧
      (stepD (faulted [quiet, offer 1])).resValid = true) ∧
    ((settled [quiet, done 0]).Inv ∧ step (settled [quiet, done 0]) = .next (stepD (settled [quiet, done 0])) ∧
      step (stepD (settled [quiet, done 0])) = .next (stepD (stepD (settled [quiet, done 0]))) ∧
      (stepD (settled [quiet, done 0])).gcStart = true) :=
  ⟨⟨inv_faulted _, step_stepD (by decide), step_stepD (by decide), by decide⟩,
    inv_settled _, step_stepD (by decide), step_stepD (by decide), by decide⟩

theorem witness_ResultsAreHeldAndReplaced :
    (step (armed [quiet]) = .next (stepD (armed [quiet])) ∧ (armed [quiet]).ports.rst = false ∧
      (stepD (armed [quiet])).resValid = false) ∧
    (step (waiting [done 2]) = .next (stepD (waiting [done 2])) ∧ (stepD (waiting [done 2])).resValid = true) :=
  ⟨⟨step_stepD (by decide), by decide, by decide⟩, step_stepD (by decide), by decide⟩

theorem witness_OnlyGcodeFramesAreRouted : step (settled [quiet]) = .next (stepD (settled [quiet])) ∧
    (stepD (settled [quiet])).gcStart = true := ⟨step_stepD (by decide), by decide⟩

theorem witness_InterpreterSampledOnlyWhenWaiting :
    ((armed [done 7]).inputs = done 7 :: [] ∧ (armed [done 7]).dpState = .idle) ∧
    ((waiting [quiet]).inputs = quiet :: [] ∧ quiet.gcDone = false) := by decide

theorem witness_DataSampledOnlyWhenAccepted : (settled [offer 1]).inputs = offer 1 :: [] ∧
    (settled [offer 1]).accepts = false := by decide

theorem witness_FaultReportedAtTheNextEdge : let s := atF2 2 .awaitingLength 0 0x9A [offer 0xFE, quiet]
    s.Inv ∧ s.rxState ≠ .faulted ∧ step s = .next (stepD s) ∧ (stepD s).rxState = .faulted ∧
    (stepD s).ports.rst = false ∧ step (stepD s) = .next (stepD (stepD s)) :=
  ⟨inv_len _, by decide, step_stepD (by decide), by decide, by decide, step_stepD (by decide)⟩

theorem witness_HeldByteStartsTheNextFrame : let s := faulted [offer 0x05, offer 0x05]
    s.Inv ∧ s.EmitsResult ∧ s.ports.rxValid = true ∧ step s = .next (stepD s) ∧ TransportHolds s (stepD s) ∧
    (stepD s).ports.rst = false :=
  ⟨inv_faulted _, ⟨rfl, .inl ⟨rfl, rfl⟩⟩, rfl, step_stepD (by decide), fun _ _ => by decide, by decide⟩

theorem witness_WaitHasNoTimeout : let s := waiting [quiet, quiet, quiet]
    s.dpState = .wait ∧ s.rxState = .complete ∧ 3 ≤ s.inputs.length ∧
    ∀ p ∈ s.inputs.take 3, p.rst = false ∧ p.gcDone = false := by decide

theorem witness_PartialFrameHasNoTimeout : let s := atF2 5 .accumulating 7 0x78 [quiet, done 1]
    s.dpState = .idle ∧ s.rxState.receiving = true ∧ 2 ≤ s.inputs.length ∧
    ∀ p ∈ s.inputs.take 2, p.rst = false ∧ p.rxValid = false := by decide

theorem offers_map (l : List Byte) : Offers (l.map offer) l := by
  unfold Offers
  rw [List.take_of_length_le (by simp), List.forall₂_map_left_iff]
  exact List.forall₂_same.2 fun _ _ => ⟨rfl, rfl, rfl⟩

/-- F2 with its CRC byte. -/
theorem witness_FrameIsReceivedInItsLength : let s := armed (f2.map offer)
    s.Inv ∧ s.rxState = .awaitingPreamble ∧ s.rxCount = 0 ∧ [0x47, 0x39, 0x30].length + 7 ≤ s.params.cap ∧
    Offers s.inputs (frameBody s.params 0x01 [0x47, 0x39, 0x30] ++ [0x8A]) ∧
    (0x8A : Byte) = crc8 (frameBody s.params 0x01 [0x47, 0x39, 0x30]) :=
  ⟨inv_armed _, rfl, rfl, by decide, offers_map f2, by decide⟩

/-- F10: a wrong last byte. -/
theorem witness_FrameIsReceivedInItsLength_bad : let s := armed ((f2.take 9 ++ [0x8B]).map offer)
    s.Inv ∧ Offers s.inputs (frameBody s.params 0x01 [0x47, 0x39, 0x30] ++ [0x8B]) ∧
    (0x8B : Byte) ≠ crc8 (frameBody s.params 0x01 [0x47, 0x39, 0x30]) :=
  ⟨inv_armed _, offers_map (f2.take 9 ++ [0x8B]), by decide⟩

/-- The shortest frame in the smallest buffer: no payload, `P_CAP = 7`. -/
theorem witness_FrameIsReceivedInItsLength_shortest :
    let s := { armed ([0xAA, 0x55, 0x04, 0x05, 0x10, 0x02, 0xBF].map offer) with
      params := { Config.reference with cap := 7 } }
    s.Inv ∧ s.rxState = .awaitingPreamble ∧ s.rxCount = 0 ∧ ([] : List Byte).length + 7 = s.params.cap ∧
    Offers s.inputs (frameBody s.params 0x02 [] ++ [0xBF]) ∧ (0xBF : Byte) = crc8 (frameBody s.params 0x02 []) :=
  ⟨Inv.withInputs (s := { armed [] with params := { Config.reference with cap := 7 } }) (Inv.of_parts (by decide)
    (by simp only [State.ReceiverShape, armed, atF2]; decide) (by unfold State.BufferOk; decide)
    (by unfold State.HeaderOk; decide) (by unfold State.RunningCrc; decide) (by decide) (by decide) (by decide)
    (by decide) (by decide)) _, rfl, rfl, rfl, offers_map [0xAA, 0x55, 0x04, 0x05, 0x10, 0x02, 0xBF], by decide⟩

/-- The longest frame, `L = 253`, in the largest buffer. -/
theorem witness_FrameIsReceivedInItsLength_longest (c : Byte) :
    let payload := List.replicate 249 (0x20 : Byte)
    let s := armed ((frameBody Config.reference 0x01 payload ++ [c]).map offer)
    s.Inv ∧ s.rxState = .awaitingPreamble ∧ s.rxCount = 0 ∧ payload.length = 249 ∧
    payload.length + 7 = s.params.cap ∧ Offers s.inputs (frameBody s.params 0x01 payload ++ [c]) :=
  ⟨inv_armed _, rfl, rfl, List.length_replicate, by rw [List.length_replicate]; rfl, offers_map _⟩

theorem witness_StaleBytesAreNeverRead : let s := { settled [quiet] with buf := image f2 }
    let s' := { settled [quiet] with buf := image (f2 ++ [0xFF]) }
    s.Inv ∧ s'.Inv ∧ s.SameButStale s' ∧ s.buf ≠ s'.buf ∧ step s = .next (stepD s) :=
  ⟨inv_settled _, Inv.of_parts (by decide) (by simp only [State.ReceiverShape, settled, atF2]; decide)
    (by unfold State.BufferOk; decide) (by unfold State.HeaderOk; decide) (by unfold State.RunningCrc; decide)
    (by decide) (by decide) (by decide) (by decide) (by decide), ⟨rfl, by decide⟩, by decide, step_stepD (by decide)⟩

end Sys2Proof.Tests
end

/-! SUPPORT. The facts about a step that the proofs below share: which operation the edge decodes to, what each operation
does to the buffer, the parameters and the two pulses, and how the buffer's first bytes are read. -/

namespace Sys2Proof.Machine

/-! ## The operation of an edge -/

/-- The operation the decode answers at the next edge (R66): RESET, else the dispatcher's, else the receiver's for an
accepted byte, else IDLE. -/
def State.decodedOp (s : State) : Instr :=
  if s.ports.rst then .reset
  else (s.dispatcherOp.or (if s.accepts then s.receiverOp else none)).getD .idle

/-- The dispatcher rows of R143 are the dispatcher part of R66. -/
theorem dispatcherRow_edgeWord (s : State) :
    dispatcherRow s.params s.edgeWord = if s.ports.rst then none else s.dispatcherOp := by
  have hsel : s.edgeWord.sel = s.sel := rfl
  have hopc : s.edgeWord.opcode = s.opcode := rfl
  have hflags : s.edgeWord.gcFlags = s.ports.gcFlags := rfl
  simp only [dispatcherRow, hsel, hopc, hflags, rowDispatchFaulted_hit, rowDispatchComplete_hit, rowInterpDone_hit,
    rowWaitHold_hit, State.dispatcherOp, dispatchOf, demux]
  cases s.ports.rst with
  | true => simp
  | false =>
    cases s.dpState with
    | idle => by_cases h : s.opcode = s.params.opcGcode <;> cases s.rxState <;> simp [h]
    | wait => cases s.ports.gcDone <;> simp

/-- The receiver rows of R143 are the receiver part of R66, for an accepted byte. -/
theorem receiverRow_edgeWord (s : State) :
    receiverRow s.params s.edgeWord = if s.accepts then s.receiverOp else none := by
  have hsel : s.edgeWord.sel = s.sel := rfl
  have hdata : s.edgeWord.rxData = s.ports.rxData := rfl
  have hcount : s.edgeWord.rxCount = s.rxCount := rfl
  have hlen : s.edgeWord.rxLen = s.rxLen := rfl
  simp only [receiverRow, hsel, hdata, hcount, hlen, rowAcceptPreamble_hit, rowAcceptLen_hit, rowAcceptSeq_hit,
    rowAcceptAddr_hit, rowAcceptAccumulating_hit, State.receiverOp]
  cases s.accepts with
  | true => cases s.rxState <;> simp
  | false => simp

/-- `SEL[5:3]` carries `rx_state`, so it never holds the encoding that R59 leaves unused. -/
theorem sel_rxState_ne_unused (s : State) : s.sel.extractLsb' 3 3 ≠ 7#3 := by
  simp only [State.sel]
  generalize s.ports.rst = a, s.ports.rxValid = b, s.rxReady = c, s.ports.gcDone = d
  cases s.dpState <;> cases s.rxState <;> cases a <;> cases b <;> cases c <;> cases d <;> decide

/-- The decode of an edge always answers an operation. -/
theorem decode_edgeWord (s : State) : decode s.params (.edge s.edgeWord) = .ok s.decodedOp := by
  have hsel : s.edgeWord.sel = s.sel := rfl
  simp only [decode, decodeEdge, hsel, rowReset_hit, dispatcherRow_edgeWord, receiverRow_edgeWord,
    sel_rxState_ne_unused, State.decodedOp]
  cases s.ports.rst with
  | true => simp
  | false =>
    cases s.dispatcherOp with
    | some i => simp
    | none => cases (if s.accepts then s.receiverOp else none) <;> simp

/-- One edge: the decoded operation runs, unless R66 selects an operation of both parts. -/
theorem step_eq (s : State) :
    step s = if twoParts s.params s.edgeWord then .refused .twoOperations else exec s.decodedOp s := by
  simp only [step, State.fetch, decode_edgeWord]
  cases twoParts s.params s.edgeWord <;> rfl

/-- A step that gives a next state ran the decoded operation. -/
theorem exec_decodedOp_of_step {s t : State} (h : step s = .next t) : exec s.decodedOp s = .next t := by
  rw [step_eq] at h
  split at h
  · cases h
  · exact h

/-- An edge with `rst = 1` does RESET's writes and nothing else (R127). -/
theorem step_of_rst {s : State} (h : s.ports.rst = true) : step s = .next s.tick.clear := by
  have hsel : s.edgeWord.sel = s.sel := rfl
  have htwo : twoParts s.params s.edgeWord = false := by simp [twoParts, hsel, rowReset_hit, h]
  have hop : s.decodedOp = .reset := by simp [State.decodedOp, h]
  rw [step_eq, htwo, hop]
  rfl

end Sys2Proof.Machine

namespace Sys2Proof

open Machine (State lengthOk)

/-! ## Kinds of operation -/

/-- The byte an operation stores (R76), if it is a storing accept. -/
def Instr.storedByte : Instr → Option Byte
  | .acceptPre0 b | .acceptPre1 b | .acceptLen b | .acceptSeq b | .acceptAddr b | .acceptBody b | .acceptCrc b => some b
  | _ => none

/-- What a storing accept writes beside STORE, from the pre-state `s` (R78 to R83, R85). -/
def Instr.afterStore (s : State) : Instr → State → State
  | .acceptPre0 b, t | .acceptBody b, t => t.foldCrc b
  | .acceptPre1 b, t => (t.foldCrc b).check (s.preambleOk b) .awaitingLength .badPreamble
  | .acceptLen b, t => ((t.setLen b).foldCrc b).check (lengthOk b) .awaitingSequence .badLength
  | .acceptSeq b, t => (t.foldCrc b).check (s.sequenceOk b) .awaitingAddress .badSequence
  | .acceptAddr b, t => (t.foldCrc b).check (s.addressOk b) .accumulating .badAddress
  | .acceptCrc b, t => t.check (s.crcOk b) .complete .badCrc
  | _, t => t

/-- Whether an operation emits a result (R95, R96, R99). -/
def Instr.emits : Instr → Bool
  | .dispatchFaulted | .dispatchUnknown _ | .unknown _ | .interpDone _ => true
  | _ => false

/-- Whether an operation routes a frame to the interpreter (R97). -/
def Instr.routes : Instr → Bool
  | .dispatchGcode | .gcode => true
  | _ => false

end Sys2Proof

namespace Sys2Proof.Machine

/-- INTERP_DONE always ends the command with a result; the flags pick which (R99). -/
theorem exec_interpDone {s t : State} {f : BitVec 3} (h : exec (.interpDone f) s = .next t) :
    ∃ c g, t = s.tick.endCommand.finish c g := by
  cases h
  split
  · exact ⟨_, _, rfl⟩
  · exact ⟨_, _, rfl⟩

/-- Every accept that has a byte to store is STORE followed by its other writes. -/
theorem exec_eq_storing {i : Instr} {b : Byte} (s : State) (hi : i.storedByte = some b) :
    exec i s = storing s b (i.afterStore s) := by
  cases i with
  | acceptPre0 | acceptPre1 | acceptLen | acceptSeq | acceptAddr | acceptBody | acceptCrc => cases hi; rfl
  | _ => cases hi

/-- What the storing accepts have in common (R76, R101): below the cap they store their byte and count it, and they
leave the dispatcher alone. -/
theorem exec_accept {i : Instr} {b : Byte} {s t : State} (hi : i.storedByte = some b) (h : exec i s = .next t) :
    s.rxCount.toNat < s.params.cap ∧ t.buf = s.buf.write s.rxCount.toNat b ∧ t.rxCount = s.rxCount + 1 ∧
      t.PulsesLow ∧ s.SameDispatcher t ∧ s.EdgePassed t := by
  rw [exec_eq_storing s hi] at h
  obtain ⟨hlt, rfl⟩ := storing_next h
  cases i with
  | acceptPre0 | acceptPre1 | acceptLen | acceptSeq | acceptAddr | acceptBody | acceptCrc =>
    simp [Instr.afterStore, State.PulsesLow, State.SameDispatcher, State.EdgePassed, hlt]
  | _ => cases hi

/-- A storing accept writes its byte at `rx_count`, and no other operation writes the buffer (R37). -/
theorem exec_buf {i : Instr} {s t : State} (h : exec i s = .next t) :
    t.buf = i.storedByte.elim s.buf (s.buf.write s.rxCount.toNat) := by
  cases i with
  | acceptPre0 b | acceptPre1 b | acceptLen b | acceptSeq b | acceptAddr b | acceptBody b | acceptCrc b =>
    obtain ⟨-, hbuf, -⟩ := exec_accept rfl h
    exact hbuf
  | interpDone f =>
    obtain ⟨c, g, rfl⟩ := exec_interpDone h
    rfl
  | _ => cases h; rfl

/-- No operation writes a build-time parameter (R26). -/
theorem exec_params {i : Instr} {s t : State} (h : exec i s = .next t) : t.params = s.params := by
  cases i with
  | acceptPre0 b | acceptPre1 b | acceptLen b | acceptSeq b | acceptAddr b | acceptBody b | acceptCrc b =>
    obtain ⟨-, -, -, -, -, hparams, -⟩ := exec_accept rfl h
    exact hparams
  | interpDone f =>
    obtain ⟨c, g, rfl⟩ := exec_interpDone h
    rfl
  | _ => cases h; rfl

/-- An operation with an edge of its own leaves each pulse high exactly if it causes it (R101). -/
theorem exec_pulses {i : Instr} {s t : State} (hi : i ≠ .rearm) (h : exec i s = .next t) :
    t.resValid = i.emits ∧ t.gcStart = i.routes := by
  cases i with
  | acceptPre0 b | acceptPre1 b | acceptLen b | acceptSeq b | acceptAddr b | acceptBody b | acceptCrc b =>
    obtain ⟨-, -, -, hpulses, -⟩ := exec_accept rfl h
    exact hpulses
  | interpDone f =>
    obtain ⟨c, g, rfl⟩ := exec_interpDone h
    exact ⟨rfl, rfl⟩
  | rearm => exact absurd rfl hi
  | _ => cases h; exact ⟨rfl, rfl⟩

/-! ## Which edges emit and route -/

/-- The dispatcher part of R66, one alternative for each branch. -/
theorem dispatcherOp_cases (s : State) :
    (s.dpState = .idle ∧ s.rxState = .faulted ∧ s.dispatcherOp = some .dispatchFaulted) ∨
    (s.dpState = .idle ∧ s.rxState = .complete ∧ s.opcode ≠ s.params.opcGcode ∧
      s.dispatcherOp = some (.dispatchUnknown s.opcode)) ∨
    (s.dpState = .idle ∧ s.rxState = .complete ∧ s.opcode = s.params.opcGcode ∧
      s.dispatcherOp = some .dispatchGcode) ∨
    (s.dpState = .wait ∧ s.ports.gcDone = true ∧ s.dispatcherOp = some (.interpDone s.ports.gcFlags)) ∨
    (s.dpState = .wait ∧ s.ports.gcDone = false ∧ s.dispatcherOp = some .waitHold) ∨
    (s.dpState = .idle ∧ s.rxState.receiving = true ∧ s.dispatcherOp = none) := by
  unfold State.dispatcherOp
  cases hd : s.dpState with
  | idle =>
    by_cases ho : s.opcode = s.params.opcGcode <;> cases hx : s.rxState <;> simp [ho, RxState.receiving]
  | wait => cases hg : s.ports.gcDone <;> simp

/-- The receiver part of R66 selects accepts only. -/
theorem kind_of_receiverOp {s : State} {i : Instr} (h : s.receiverOp = some i) :
    i.emits = false ∧ i.routes = false ∧ i ≠ .rearm := by
  unfold State.receiverOp at h
  split_ifs at h <;> cases h <;> exact ⟨rfl, rfl, Instr.noConfusion⟩

/-- Without a reset the dispatcher's operation comes first. -/
theorem decodedOp_of_dispatcherOp {s : State} {i : Instr} (hrst : s.ports.rst = false)
    (h : s.dispatcherOp = some i) : s.decodedOp = i := by
  simp [State.decodedOp, hrst, h]

/-- Where the dispatcher selects nothing, the edge is an accept or IDLE. -/
theorem kind_of_dispatcherOp_none {s : State} (hrst : s.ports.rst = false) (h : s.dispatcherOp = none) :
    s.decodedOp.emits = false ∧ s.decodedOp.routes = false ∧ s.decodedOp ≠ .rearm := by
  have hop : s.decodedOp = (if s.accepts then s.receiverOp else none).getD .idle := by
    simp [State.decodedOp, hrst, h]
  rw [hop]
  cases hr : (if s.accepts then s.receiverOp else none) with
  | none => exact ⟨rfl, rfl, Instr.noConfusion⟩
  | some i =>
    obtain ⟨-, hi⟩ : s.accepts = true ∧ s.receiverOp = some i := by simpa using hr
    exact kind_of_receiverOp hi

/-- The kind of the decoded operation: what it emits and routes, and that a re-arm is no edge of its own (R90). -/
theorem kind_of_decodedOp (s : State) :
    (s.decodedOp.emits = true ↔ s.EmitsResult) ∧ (s.decodedOp.routes = true ↔ s.RoutesFrame) ∧
      s.decodedOp ≠ .rearm := by
  unfold State.EmitsResult State.RoutesFrame
  cases hrst : s.ports.rst with
  | true => simp [State.decodedOp, hrst, Instr.emits, Instr.routes]
  | false =>
    rcases dispatcherOp_cases s with ⟨hd, hx, hop⟩ | ⟨hd, hx, ho, hop⟩ | ⟨hd, hx, ho, hop⟩ | ⟨hd, hg, hop⟩ |
      ⟨hd, hg, hop⟩ | ⟨hd, hx, hop⟩
    · simp [decodedOp_of_dispatcherOp hrst hop, hd, hx, Instr.emits, Instr.routes]
    · simp [decodedOp_of_dispatcherOp hrst hop, hd, hx, ho, Instr.emits, Instr.routes]
    · simp [decodedOp_of_dispatcherOp hrst hop, hd, hx, ho, Instr.emits, Instr.routes]
    · simp [decodedOp_of_dispatcherOp hrst hop, hd, hg, Instr.emits, Instr.routes]
    · simp [decodedOp_of_dispatcherOp hrst hop, hd, hg, Instr.emits, Instr.routes]
    · have hf : s.rxState ≠ .faulted := by rintro h; simp [h, RxState.receiving] at hx
      have hc : s.rxState ≠ .complete := by rintro h; simp [h, RxState.receiving] at hx
      simp [kind_of_dispatcherOp_none hrst hop, hd, hf, hc]

/-- The pulses after a step say what the step did (R24, R25). -/
theorem step_pulses {s t : State} (h : step s = .next t) :
    (t.resValid = true ↔ s.EmitsResult) ∧ (t.gcStart = true ↔ s.RoutesFrame) := by
  obtain ⟨hemits, hroutes, hrearm⟩ := kind_of_decodedOp s
  obtain ⟨hv, hg⟩ := exec_pulses hrearm (exec_decodedOp_of_step h)
  rw [hv, hg]
  exact ⟨hemits, hroutes⟩

/-- After a result the receiver is re-armed and no command is out (R95, R96, R99). -/
theorem rearmed_of_emitsResult {s t : State} (he : s.EmitsResult) (h : step s = .next t) :
    t.rxState = .awaitingPreamble ∧ t.dpState = .idle := by
  have hexec := exec_decodedOp_of_step h
  obtain ⟨hrst, ⟨hd, hx⟩ | ⟨hd, hx, ho⟩ | ⟨hd, hg⟩⟩ := he
  · have hop : s.dispatcherOp = some .dispatchFaulted := by simp [State.dispatcherOp, hd, hx]
    rw [decodedOp_of_dispatcherOp hrst hop] at hexec
    cases hexec
    exact ⟨rfl, hd⟩
  · have hop : s.dispatcherOp = some (.dispatchUnknown s.opcode) := by simp [State.dispatcherOp, hd, hx, ho]
    rw [decodedOp_of_dispatcherOp hrst hop] at hexec
    cases hexec
    exact ⟨rfl, hd⟩
  · have hop : s.dispatcherOp = some (.interpDone s.ports.gcFlags) := by simp [State.dispatcherOp, hd, hg]
    rw [decodedOp_of_dispatcherOp hrst hop] at hexec
    obtain ⟨c, g, rfl⟩ := exec_interpDone hexec
    exact ⟨rfl, rfl⟩

/-- After a frame was routed the command is with the interpreter (R97). -/
theorem wait_of_routesFrame {s t : State} (hr : s.RoutesFrame) (h : step s = .next t) : t.dpState = .wait := by
  obtain ⟨hrst, hd, hx, ho⟩ := hr
  have hop : s.dispatcherOp = some .dispatchGcode := by simp [State.dispatcherOp, hd, hx, ho]
  have hexec := exec_decodedOp_of_step h
  rw [decodedOp_of_dispatcherOp hrst hop] at hexec
  cases hexec
  rfl

/-! ## Reading the buffer's first bytes -/

/-- Entries that are all written can be listed (R93). -/
theorem Memory.exists_firstBytes {m : Memory} {n : Nat} (h : ∀ i < n, (m.read i).isSome) :
    ∃ l, m.firstBytes n = some l := by
  induction n with
  | zero => exact ⟨[], rfl⟩
  | succ n ih =>
    obtain ⟨l, hl⟩ := ih fun i hi => h i (by omega)
    obtain ⟨b, hb⟩ := Option.isSome_iff_exists.mp (h n (by omega))
    exact ⟨l ++ [b], Memory.firstBytes_succ hl hb⟩

/-- A listed byte is what a read of its address answers, with no free draw. -/
theorem State.getElem?_firstBytes {s : State} {n i : Nat} {l : List Byte} (h : s.buf.firstBytes n = some l)
    (hi : i < n) : l[i]? = some (s.readBuf i) := by
  have hlt : i < l.length := by rwa [Memory.firstBytes_length h]
  have hread : s.buf.read i = some l[i] := by
    rw [← Memory.getElem?_firstBytes h hi, List.getElem?_eq_getElem hlt]
  rw [State.readBuf_of_some hread, List.getElem?_eq_getElem hlt]

/-- The payload length of a legal frame (R53). -/
theorem State.payloadLen_toNat {s : State} (h : lengthLegal s.rxLen) : s.payloadLen.toNat + 4 = s.rxLen.toNat := by
  obtain ⟨hmin, -⟩ := h
  have hle : (4 : Byte) ≤ s.rxLen := by simpa [BitVec.le_def] using hmin
  have hfour : (4 : Byte).toNat = 4 := rfl
  rw [State.payloadLen, BitVec.toNat_sub_of_le hle, hfour]
  omega

/-! ## The receiving states -/

/-- R16: the receiving states, listed. -/
theorem RxState.receiving_iff (x : RxState) : x.receiving = true ↔
    x ∈ [.awaitingPreamble, .awaitingLength, .awaitingSequence, .awaitingAddress, .accumulating] := by
  cases x <;> simp [RxState.receiving]

/-- R59: seven is the encoding of no state. -/
theorem RxState.code_ne_unused (x : RxState) : x.code ≠ 7 := by
  cases x <;> decide

/-! ## The statements -/

/-- Settles O32: in `Complete` the invariant lists every byte of the frame, and each output reads one of them. -/
theorem outcomeOutputsShowTheFrame : Obligations.OutcomeOutputsShowTheFrame := by
  intro s hinv hx
  obtain ⟨hcount, hlen, -⟩ : s.rxCount.toNat = s.rxLen.toNat + 3 ∧ lengthLegal s.rxLen ∧ s.rxFlags = 0 := by
    simpa [State.ReceiverShape, hx] using hinv.receiver
  obtain ⟨-, -, -, hwritten⟩ := hinv.buffer
  obtain ⟨-, hbyte2, -, -⟩ := hinv.header
  obtain ⟨f, hf⟩ := Memory.exists_firstBytes hwritten
  rw [hcount] at hf
  have hpl : s.plLen = s.payloadLen := by simp [State.plLen, hx]
  have hplen := State.payloadLen_toNat hlen
  obtain ⟨hmin, hmax⟩ := hlen
  rw [hpl]
  refine ⟨f, hf, ?opcode, ?declared, hplen, by omega, ?payload⟩
  case opcode =>
    rw [State.getElem?_firstBytes hf (by omega), State.frOpcode, if_pos hx, State.opcode, opcodeOffset]
  case declared =>
    rw [Memory.getElem?_firstBytes hf (by omega), hbyte2 (by omega), State.frLen]
  case payload =>
    intro idx hidx
    rw [State.getElem?_firstBytes hf (by omega), State.plDataAt, if_pos ⟨hx, by omega⟩, State.payloadByte,
      payloadOffset]

/-- Settles O41: a step's only write to the buffer is a MemWrite. -/
theorem stepKeepsTheBufferCanonical : Obligations.StepKeepsTheBufferCanonical := by
  intro s t hwf h
  rw [exec_buf (exec_decodedOp_of_step h)]
  cases s.decodedOp.storedByte with
  | none => exact hwf
  | some b => exact Memory.wf_write _ b hwf

/-- Settles O42. -/
theorem parametersNeverChange : Obligations.ParametersNeverChange :=
  fun _ _ h => exec_params (exec_decodedOp_of_step h)

/-- Settles O45: a result leaves the receiver re-armed with no command out, and a routed frame leaves the dispatcher in
`WAIT`, so the next edge can do neither again. -/
theorem pulsesLastOneInterval : Obligations.PulsesLastOneInterval := by
  refine ⟨fun p => ⟨rfl, rfl⟩, fun s t h => step_pulses h, fun s t u _ hst htu => ⟨fun hv => ?_, fun hg => ?_⟩⟩
  · obtain ⟨hx, hd⟩ := rearmed_of_emitsResult ((step_pulses hst).1.mp hv) hst
    have hquiet : ¬ t.EmitsResult := by simp [State.EmitsResult, hx, hd]
    simpa [hquiet] using (step_pulses htu).1
  · have hd := wait_of_routesFrame ((step_pulses hst).2.mp hg) hst
    have hquiet : ¬ t.RoutesFrame := by simp [State.RoutesFrame, hd]
    simpa [hquiet] using (step_pulses htu).2

/-- Settles O29: a reset edge does RESET's writes, and the first state has the same values in an unwritten buffer. -/
theorem resetGivesTheResetValues : Obligations.ResetGivesTheResetValues :=
  ⟨fun s h => ⟨s.tick.clear, step_of_rst h, ⟨rfl, rfl, rfl, rfl, rfl, rfl, rfl, rfl, rfl, rfl⟩, rfl, rfl⟩,
    fun _ => ⟨⟨rfl, rfl, rfl, rfl, rfl, rfl, rfl, rfl, rfl, rfl⟩, rfl, Memory.read_nil⟩⟩

/-- Settles O30. -/
theorem readyExactlyWhileReceiving : Obligations.ReadyExactlyWhileReceiving := by
  intro s
  rw [← RxState.receiving_iff, State.rxReady, Bool.and_eq_true, Bool.not_eq_true']

/-- Settles O31. -/
theorem statusOutputsCopyTheRegisters : Obligations.StatusOutputsCopyTheRegisters :=
  ⟨⟨rfl, rfl, rfl, rfl, rfl, rfl, rfl, RxState.code_ne_unused⟩, ⟨rfl, rfl⟩, ⟨rfl, rfl, rfl, rfl⟩,
    fun _ => ⟨rfl, beq_iff_eq, beq_iff_eq, rfl, rfl, rfl, rfl, rfl⟩⟩

/-- Settles O33: with nothing stored, every part that speaks of stored bytes, a fault, a command or a pulse is empty. -/
theorem resetMeetsTheInvariant : Obligations.ResetMeetsTheInvariant := by
  intro p inputs edge hlegal
  exact
    { legal := hlegal
      receiver := ⟨Nat.zero_le 1, rfl, rfl⟩
      buffer := ⟨Memory.wf_nil, by simp [State.resetWith], Nat.zero_le _, by simp [State.resetWith]⟩
      header := by simp [State.HeaderOk, State.resetWith]
      crc := rfl
      trailer := by simp [State.TrailerOk, State.resetWith]
      dispatcher := by simp [State.DispatcherOk, State.resetWith]
      result := rfl
      pulses := by simp [State.PulsesOk, State.resetWith] }

end Sys2Proof.Machine

/-! SUPPORT. The buffer's part in a step: which edges store a byte, what a report leaves behind, and what changes when
the buffer alone is replaced by another. -/

namespace Sys2Proof.Machine

/-! ## Which edges store -/

/-- The dispatcher part of R66 selects no storing accept. -/
theorem storedByte_of_dispatcherOp {s : State} {i : Instr} (h : s.dispatcherOp = some i) : i.storedByte = none := by
  unfold State.dispatcherOp at h
  split_ifs at h <;> cases h <;> rfl

/-- The receiver part of R66 stores the offered byte or none. -/
theorem storedByte_of_receiverOp {s : State} {i : Instr} {b : Byte} (h : s.receiverOp = some i)
    (hb : i.storedByte = some b) : b = s.ports.rxData := by
  unfold State.receiverOp at h
  split_ifs at h <;> cases h <;> cases hb <;> rfl

/-- The receiver part of R66 checks the preamble at offset 1 only (R79). -/
theorem rxCount_of_receiverOp_acceptPre1 {s : State} {b : Byte} (h : s.receiverOp = some (.acceptPre1 b)) :
    s.rxCount = 1 := by
  unfold State.receiverOp at h
  split_ifs at h with _ hpre1
  · cases h
  · exact hpre1.2
  all_goals cases h

/-- An edge that decodes to a storing accept accepts a byte, and the receiver selects the operation (R66, R77). -/
theorem receiverOp_of_storedByte {s : State} {b : Byte} (h : s.decodedOp.storedByte = some b) :
    s.accepts = true ∧ s.receiverOp = some s.decodedOp := by
  cases hrst : s.ports.rst with
  | true => simp [State.decodedOp, hrst, Instr.storedByte] at h
  | false =>
    cases hd : s.dispatcherOp with
    | some i => simp [decodedOp_of_dispatcherOp hrst hd, storedByte_of_dispatcherOp hd] at h
    | none =>
      have hop : s.decodedOp = (if s.accepts then s.receiverOp else none).getD .idle := by
        simp [State.decodedOp, hrst, hd]
      cases hr : (if s.accepts then s.receiverOp else none) with
      | none => simp [hop, hr, Instr.storedByte] at h
      | some i =>
        obtain ⟨ha, hi⟩ : s.accepts = true ∧ s.receiverOp = some i := by simpa using hr
        exact ⟨ha, by simp [hop, ha, hi]⟩

/-! ## Dispatcher and receiver never work at one edge -/

/-- While the receiver takes bytes the dispatcher has nothing to do (R103). -/
theorem dispatcherOp_of_receiving {s : State} (hd : s.DispatcherOk) (hx : s.rxState.receiving = true) :
    s.dispatcherOp = none := by
  have hc : s.rxState ≠ .complete := by rintro h; simp [h, RxState.receiving] at hx
  have hf : s.rxState ≠ .faulted := by rintro h; simp [h, RxState.receiving] at hx
  have hw : s.dpState ≠ .wait := fun h => hc (hd h).1
  simp [State.dispatcherOp, hc, hf, hw]

/-- Where `WAIT` goes with `Complete` only, the edge runs its decoded operation (R103, X8). -/
theorem step_eq_exec {s : State} (hd : s.DispatcherOk) : step s = exec s.decodedOp s := by
  have htwo : twoParts s.params s.edgeWord = false := by
    cases ha : s.accepts with
    | true =>
      simp [twoParts, dispatcherRow_edgeWord, dispatcherOp_of_receiving hd (State.receiving_of_accepts ha)]
    | false => simp [twoParts, receiverRow_edgeWord, ha]
  rw [step_eq, htwo]
  rfl

/-- An accepted byte's edge runs the operation that the receiver part of R66 selects. -/
theorem step_of_receiverOp {s : State} {i : Instr} (hd : s.DispatcherOk) (ha : s.accepts = true)
    (h : s.receiverOp = some i) : step s = exec i s := by
  have hrst : s.ports.rst = false := by
    simp only [State.accepts, Bool.and_eq_true, Bool.not_eq_true'] at ha
    obtain ⟨⟨hrst, -⟩, -⟩ := ha
    exact hrst
  have hop : s.decodedOp = i := by
    simp [State.decodedOp, hrst, dispatcherOp_of_receiving hd (State.receiving_of_accepts ha), ha, h]
  rw [step_eq_exec hd, hop]

/-- No byte is taken at the edge of a report (R46, R132). -/
theorem not_accepts_of_emitsResult {s : State} (hd : s.DispatcherOk) (he : s.EmitsResult) : s.accepts = false := by
  rw [← Bool.not_eq_true]
  intro ha
  have hnone := dispatcherOp_of_receiving hd (State.receiving_of_accepts ha)
  obtain ⟨hquiet, -⟩ := kind_of_dispatcherOp_none he.1 hnone
  obtain ⟨hemits, -⟩ := kind_of_decodedOp s
  simp [hquiet, he] at hemits

/-! ## After a report -/

/-- An operation that emits a result re-arms the receiver and leaves the buffer (R90, R95, R96, R99). -/
theorem exec_emits {i : Instr} {s t : State} (hi : i.emits = true) (h : exec i s = .next t) :
    t.Rearmed ∧ t.buf = s.buf := by
  cases i with
  | dispatchFaulted | dispatchUnknown | unknown => cases h; exact ⟨⟨rfl, rfl, rfl, rfl, rfl⟩, rfl⟩
  | interpDone f =>
    obtain ⟨c, g, rfl⟩ := exec_interpDone h
    exact ⟨⟨rfl, rfl, rfl, rfl, rfl⟩, rfl⟩
  | _ => cases hi

/-- An armed receiver takes an offered byte as offset 0 of a new frame (R75, R78). -/
theorem step_of_armed {s : State} (hd : s.dpState = .idle) (hx : s.rxState = .awaitingPreamble) (hc : s.rxCount = 0)
    (hcap : 0 < s.params.cap) (hrst : s.ports.rst = false) (hv : s.ports.rxValid = true) :
    step s = .next ((s.tick.storeByte s.ports.rxData).foldCrc s.ports.rxData) := by
  have hdisp : s.DispatcherOk := fun hw => by simp [hd] at hw
  have ha : s.accepts = true := by simp [State.accepts, State.rxReady, hrst, hv, hx, RxState.receiving]
  have hop : s.receiverOp = some (.acceptPre0 s.ports.rxData) := by simp [State.receiverOp, hx, hc]
  rw [step_of_receiverOp hdisp ha hop, exec_eq_storing s rfl, storing_of_lt (by simpa [hc] using hcap)]
  rfl

/-! ## Replacing the buffer -/

/-- The state with another buffer. -/
def State.withBuf (s : State) (m : Memory) : State := { s with buf := m }

/-- Differing in stale bytes only, as a replaced buffer that agrees below `rx_count`. -/
theorem State.sameButStale_withBuf {s : State} {m : Memory}
    (h : ∀ i < s.rxCount.toNat, m.read i = s.buf.read i) : s.SameButStale (s.withBuf m) :=
  ⟨rfl, h⟩

theorem State.readBuf_withBuf {s : State} {m : Memory} {a : Nat} (h : m.read a = s.buf.read a) :
    (s.withBuf m).readBuf a = s.readBuf a := by
  simp [State.readBuf, State.withBuf, h]

theorem State.preambleOk_withBuf {s : State} {m : Memory} (b : Byte) (h : m.read 0 = s.buf.read 0) :
    (s.withBuf m).preambleOk b = s.preambleOk b := by
  rw [State.preambleOk, State.readBuf_withBuf h]
  rfl

theorem State.check_withBuf (s : State) (m : Memory) (ok : Bool) (x : RxState) (f : FramingFault) :
    (s.withBuf m).check ok x f = (s.check ok x f).withBuf m := by
  cases ok <;> rfl

/-- The decode reads the buffer in `Complete` only, and there `buf[5]` only (R56, R66). -/
theorem decodedOp_withBuf {s : State} {m : Memory} (h : s.rxState = .complete → m.read 5 = s.buf.read 5) :
    (s.withBuf m).decodedOp = s.decodedOp := by
  have hdisp : (s.withBuf m).dispatcherOp = s.dispatcherOp := by
    by_cases hx : s.rxState = .complete
    · have hopc : (s.withBuf m).opcode = s.opcode := State.readBuf_withBuf (h hx)
      rw [State.dispatcherOp, hopc]
      rfl
    · have hx' : (s.withBuf m).rxState ≠ .complete := hx
      simp only [State.dispatcherOp, hx, hx', false_and, and_false, if_false]
      rfl
  rw [State.decodedOp, hdisp]
  rfl

/-- What a storing accept does beside STORE depends on the buffer in the preamble check only (R79). -/
theorem afterStore_withBuf {i : Instr} {s : State} {m : Memory} (t : State) (m' : Memory)
    (hpre : ∀ b, i = .acceptPre1 b → m.read 0 = s.buf.read 0) :
    i.afterStore (s.withBuf m) (t.withBuf m') = (i.afterStore s t).withBuf m' := by
  cases i with
  | acceptPre1 b =>
    simp only [Instr.afterStore, State.preambleOk_withBuf b (hpre b rfl)]
    exact State.check_withBuf (t.foldCrc b) m' _ _ _
  | acceptLen b => exact State.check_withBuf ((t.setLen b).foldCrc b) m' _ _ _
  | acceptSeq b | acceptAddr b => exact State.check_withBuf (t.foldCrc b) m' _ _ _
  | acceptCrc b => exact State.check_withBuf t m' _ _ _
  | _ => rfl

/-- An operation run on another buffer does the same, with its own store made in that buffer. -/
theorem exec_withBuf {i : Instr} {s t : State} {m : Memory}
    (hpre : ∀ b, i = .acceptPre1 b → m.read 0 = s.buf.read 0)
    (h : exec i s = .next t) :
    exec i (s.withBuf m) = .next (t.withBuf (i.storedByte.elim m (m.write s.rxCount.toNat))) := by
  cases hb : i.storedByte with
  | some b =>
    rw [exec_eq_storing s hb] at h
    obtain ⟨hlt, rfl⟩ := storing_next h
    rw [exec_eq_storing _ hb, storing_of_lt (s := s.withBuf m) hlt]
    exact congrArg _ (afterStore_withBuf (s.tick.storeByte b) (m.write s.rxCount.toNat b) hpre)
  | none =>
    cases i with
    | acceptPre0 | acceptPre1 | acceptLen | acceptSeq | acceptAddr | acceptBody | acceptCrc => cases hb
    | interpDone f =>
      cases h
      simp only [exec, execInterpDone]
      split <;> rfl
    | _ => cases h; rfl

/-- An operation that stores nothing keeps `rx_count` or clears it. -/
theorem exec_rxCount_le {i : Instr} {s t : State} (hi : i.storedByte = none) (h : exec i s = .next t) :
    t.rxCount.toNat ≤ s.rxCount.toNat := by
  cases i with
  | acceptPre0 | acceptPre1 | acceptLen | acceptSeq | acceptAddr | acceptBody | acceptCrc => cases hi
  | interpDone f =>
    obtain ⟨c, g, rfl⟩ := exec_interpDone h
    exact Nat.zero_le _
  | dispatchGcode | gcode | waitHold | idle | acceptOversize => cases h; exact le_rfl
  | dispatchFaulted | dispatchUnknown | unknown | reset | rearm => cases h; exact Nat.zero_le _

/-- An operation whose reads lie below `rx_count` keeps two buffers alike below `rx_count`. -/
theorem exec_sameButStale {i : Instr} {s t : State} {m : Memory}
    (hpre : ∀ b, i = .acceptPre1 b → m.read 0 = s.buf.read 0)
    (hm : ∀ a < s.rxCount.toNat, m.read a = s.buf.read a) (h : exec i s = .next t) :
    ∃ t', exec i (s.withBuf m) = .next t' ∧ t.SameButStale t' := by
  refine ⟨_, exec_withBuf hpre h, State.sameButStale_withBuf fun a ha => ?_⟩
  rw [exec_buf h]
  cases hb : i.storedByte with
  | none => exact hm a (lt_of_lt_of_le ha (exec_rxCount_le hb h))
  | some b =>
    obtain ⟨-, -, hcount, -⟩ := exec_accept hb h
    have hle : t.rxCount.toNat ≤ s.rxCount.toNat + 1 := by
      rw [hcount, BitVec.toNat_add]
      exact Nat.mod_le _ _
    simp only [Option.elim, Memory.read_write]
    split
    · rfl
    · exact hm a (by omega)

/-- The `Complete` row of R93: the whole frame is stored, of a legal length. -/
theorem State.Inv.complete_frame {s : State} (hinv : s.Inv) (hx : s.rxState = .complete) :
    s.rxCount.toNat = s.rxLen.toNat + 3 ∧ lengthLegal s.rxLen := by
  have hshape := hinv.receiver
  simp only [State.ReceiverShape, hx] at hshape
  obtain ⟨hcount, hlen, -⟩ := hshape
  exact ⟨hcount, hlen⟩

/-- In `Complete` the opcode and payload outputs read below `rx_count` only (R30, R31). -/
theorem outputs_withBuf {s : State} {m : Memory} (hinv : s.Inv) (hx : s.rxState = .complete)
    (hm : ∀ a < s.rxCount.toNat, m.read a = s.buf.read a) :
    (s.withBuf m).frOpcode = s.frOpcode ∧
      ∀ idx : Byte, idx.toNat < s.plLen.toNat → (s.withBuf m).plDataAt idx = s.plDataAt idx := by
  have hx' : (s.withBuf m).rxState = .complete := hx
  obtain ⟨hcount, hlen⟩ := hinv.complete_frame hx
  have hplen := State.payloadLen_toNat hlen
  obtain ⟨hmin, -⟩ := hlen
  have hpl : s.plLen = s.payloadLen := by simp [State.plLen, hx]
  constructor
  · rw [State.frOpcode, if_pos hx', State.frOpcode, if_pos hx]
    exact State.readBuf_withBuf (hm 5 (by omega))
  · intro idx hidx
    rw [hpl] at hidx
    have hin : idx.toNat + 4 < s.rxLen.toNat := by omega
    rw [State.plDataAt, if_pos ⟨hx', hin⟩, State.plDataAt, if_pos ⟨hx, hin⟩]
    exact State.readBuf_withBuf (hm (6 + idx.toNat) (by omega))

/-! ## The statements -/

/-- Settles O55: the decode and the checks read below `rx_count` only, and a store extends both buffers alike. -/
theorem staleBytesAreNeverRead : Obligations.StaleBytesAreNeverRead := by
  rintro s s' t hinv hinv' ⟨heq, hm⟩ h
  obtain ⟨m, rfl⟩ : ∃ m, s' = s.withBuf m := ⟨_, heq⟩
  have hcomplete : s.rxState = .complete → m.read 5 = s.buf.read 5 := fun hx => by
    obtain ⟨hcount, hmin, -⟩ := hinv.complete_frame hx
    exact hm 5 (by omega)
  have hpre : ∀ b, s.decodedOp = .acceptPre1 b → m.read 0 = s.buf.read 0 := fun b hop => by
    obtain ⟨-, hr⟩ := receiverOp_of_storedByte (b := b) (by rw [hop]; rfl)
    have hone : s.rxCount = 1 := rxCount_of_receiverOp_acceptPre1 (hop ▸ hr)
    exact hm 0 (by rw [hone]; decide)
  refine ⟨?_, fun hx => outputs_withBuf hinv hx hm⟩
  rw [step_eq_exec hinv'.dispatcher, decodedOp_withBuf hcomplete]
  exact exec_sameButStale hpre hm (exec_decodedOp_of_step h)

/-- Settles O43: only a storing accept writes the buffer, and the receiver selects one for an accepted byte only. -/
theorem onlyAcceptsWriteTheBuffer : Obligations.OnlyAcceptsWriteTheBuffer := by
  intro s t h a hne
  have hexec := exec_decodedOp_of_step h
  have hbuf := exec_buf hexec
  cases hb : s.decodedOp.storedByte with
  | none => exact absurd (by rw [hbuf, hb]; rfl) hne
  | some b =>
    obtain ⟨ha, hr⟩ := receiverOp_of_storedByte hb
    obtain ⟨hlt, hwrite, -⟩ := exec_accept hb hexec
    obtain rfl : b = s.ports.rxData := storedByte_of_receiverOp hr hb
    have haddr : a = s.rxCount.toNat := by
      by_contra hx
      exact hne (by rw [hwrite, Memory.read_write_of_ne _ _ hx])
    subst haddr
    exact ⟨ha, State.receiving_of_accepts ha, rfl, hlt, by rw [hwrite, Memory.read_write_self]⟩

/-- Settles O51: the report leaves the byte on the port and the receiver armed, which takes it at the next edge. -/
theorem heldByteStartsTheNextFrame : Obligations.HeldByteStartsTheNextFrame := by
  intro s t hinv he hv h hholds hrst
  have hexec := exec_decodedOp_of_step h
  obtain ⟨hemits, -⟩ := kind_of_decodedOp s
  obtain ⟨⟨hx, hcount, -, hcrc, -⟩, hbuf⟩ := exec_emits (hemits.mpr he) hexec
  obtain ⟨-, hidle⟩ := rearmed_of_emitsResult he h
  obtain ⟨hv', hdata⟩ := hholds hv (not_accepts_of_emitsResult hinv.dispatcher he)
  have hcap : 0 < t.params.cap := by
    obtain ⟨hmin, -⟩ := hinv.legal
    rw [exec_params hexec]
    omega
  refine ⟨fun a => by rw [hbuf], _, step_of_armed hidle hx hcount hcap hrst hv', ?_⟩
  simp [hcount, hx, hcrc, hdata]

/-- Settles O20: each of the seven is STORE at `rx_count` followed by its other writes, and STORE stops there. -/
theorem storingAcceptPastTheCapStops : Obligations.StoringAcceptPastTheCapStops := by
  intro s b hcap i hi
  have hb : i.storedByte = some b := by
    simp only [List.mem_cons, List.not_mem_nil, or_false] at hi
    rcases hi with rfl | rfl | rfl | rfl | rfl | rfl | rfl <;> rfl
  rw [exec_eq_storing s hb, storing_of_le hcap]

end Sys2Proof.Machine

/-! SUPPORT. A legal frame on the wire: what it holds at each offset, what the receiver has taken after `n` of its bytes,
and the run over the whole frame. -/

namespace Sys2Proof.Machine

/-! ## The buffer and the CRC, one byte at a time -/

/-- Without its last byte a list of the first bytes is the list one shorter. -/
theorem Memory.firstBytes_dropLast {m : Memory} {n : Nat} {l : List Byte} (h : m.firstBytes (n + 1) = some l) :
    m.firstBytes n = some l.dropLast := by
  simp only [Memory.firstBytes] at h
  split at h
  · rename_i l' b hl _
    obtain rfl : l' ++ [b] = l := by simpa using h
    rw [hl, List.dropLast_concat]
  · cases h

/-- R68: one more byte is one more CRC8_STEP. -/
theorem crc8_append_byte (m : List Byte) (b : Byte) : crc8 (m ++ [b]) = crc8Step (crc8 m) b := by
  simp [crc8]

/-! ## Legal headers -/

/-- R51 without the CRC byte: the header of a frame of declared length `len`, and its size `N = L + 3` (R53). -/
structure LegalHeader (p : Params) (f : List Byte) (len : Byte) : Prop where
  pre0 : f[0]? = some p.pre0
  pre1 : f[1]? = some p.pre1
  length : f[2]? = some len
  seq : f[3]? = some p.seq
  addr : f[4]? = some p.addr
  legal : lengthLegal len
  size : f.length = len.toNat + 3

/-- The length check of R80 admits every legal length. -/
theorem lengthOk_of_legal {len : Byte} (h : lengthLegal len) : lengthOk len = true := by
  obtain ⟨hmin, hmax⟩ := h
  simp [lengthOk, Config.lenMin, Config.lenMax, hmin, hmax]

/-- A frame built by `frameBody` has a legal header, whatever its opcode, payload and last byte (R51, R53). -/
theorem legalHeader_frameBody (p : Params) (opc : Byte) {payload : List Byte} (c : Byte) (h : payload.length ≤ 249) :
    LegalHeader p (frameBody p opc payload ++ [c]) (BitVec.ofNat 8 (payload.length + 4)) := by
  have hlen : (BitVec.ofNat 8 (payload.length + 4)).toNat = payload.length + 4 := by
    rw [BitVec.toNat_ofNat]
    omega
  exact
    { pre0 := rfl, pre1 := rfl, length := rfl, seq := rfl, addr := rfl
      legal := ⟨by omega, by omega⟩
      size := by simp [frameBody, hlen] }

/-- An offered frame's byte `n` is on the ports at edge `n` (R141). -/
theorem Offers.head {inputs : List Inputs} {f : List Byte} {n : Nat} {b : Byte} (h : Offers inputs f)
    (hb : f[n]? = some b) :
    ∃ p rest, inputs.drop n = p :: rest ∧ p.rst = false ∧ p.rxValid = true ∧ p.rxData = b := by
  obtain ⟨hn, rfl⟩ := List.getElem?_eq_some_iff.mp hb
  obtain ⟨hlen, hall⟩ := List.forall₂_iff_get.mp h
  have hn' : n < (inputs.take f.length).length := by rwa [hlen]
  have hin : n < inputs.length := by
    rw [List.length_take] at hn'
    omega
  refine ⟨inputs[n], inputs.drop (n + 1), List.drop_eq_getElem_cons hin, ?_⟩
  simpa using hall n hn' hn

/-! ## A frame in progress -/

/-- The receiver state that awaits byte `n` of a frame (R79 to R82). -/
def stateAwaiting : Nat → RxState
  | 0 | 1 => .awaitingPreamble
  | 2 => .awaitingLength
  | 3 => .awaitingSequence
  | 4 => .awaitingAddress
  | _ => .accumulating

/-- From `s` the block has stored the first `n` bytes of `f`, and nothing else has happened. -/
structure State.HasStored (s : State) (f : List Byte) (n : Nat) (t : State) : Prop where
  bytes : t.buf.firstBytes n = some (f.take n)
  count : t.rxCount.toNat = n
  params : t.params = s.params
  inputs : t.inputs = s.inputs.drop n
  dispatcher : s.SameDispatcher t

theorem receiving_stateAwaiting (n : Nat) : (stateAwaiting n).receiving = true := by
  match n with
  | 0 | 1 | 2 | 3 | 4 | _ + 5 => rfl

/-- The receiver registers after `n` accepted bytes of the legal frame `f`, with bytes still to come (R88, R93). -/
structure ReceiverMidFrame (f : List Byte) (n : Nat) (t : State) : Prop where
  state : t.rxState = stateAwaiting n
  len : 3 ≤ n → f[2]? = some t.rxLen
  crc : t.rxCrc = crc8 (f.take n)
  flags : t.rxFlags = 0

/-- A read of a stored byte. -/
theorem State.HasStored.readBuf {s t : State} {f : List Byte} {n i : Nat} {b : Byte} (h : s.HasStored f n t)
    (hi : i < n) (hb : f[i]? = some b) : t.readBuf i = b := by
  have hread := State.getElem?_firstBytes h.bytes hi
  rw [List.getElem?_take_of_lt hi, hb] at hread
  exact (Option.some.inj hread).symm

/-- A storing accept of byte `n` stores it after the first `n` and leaves everything but the receiver alone (R76). -/
theorem State.HasStored.accept {s t u : State} {f : List Byte} {n : Nat} {i : Instr} {b : Byte}
    (h : s.HasStored f n t) (hb : f[n]? = some b) (hi : i.storedByte = some b) (hcap : n < 256)
    (hu : exec i t = .next u) : s.HasStored f (n + 1) u := by
  obtain ⟨-, hbuf, hcount, -, ⟨hdp, hcode, hflags⟩, hparams, hinputs, -⟩ := exec_accept hi hu
  obtain ⟨hdp', hcode', hflags'⟩ := h.dispatcher
  exact
    { bytes := by
        rw [hbuf, List.take_add_one, hb, h.count]
        exact Memory.firstBytes_succ (by rw [Memory.firstBytes_write b le_rfl, h.bytes]) (Memory.read_write_self ..)
      count := by rw [hcount, count_succ_toNat (by rw [h.count]; exact hcap), h.count]
      params := hparams.trans h.params
      inputs := by rw [hinputs, h.inputs, List.tail_drop]
      dispatcher := ⟨hdp.trans hdp', hcode.trans hcode', hflags.trans hflags'⟩ }

/-- The operation that R66 selects for byte `n` of a frame, before its CRC byte. -/
def acceptOf (b : Byte) : Nat → Instr
  | 0 => .acceptPre0 b
  | 1 => .acceptPre1 b
  | 2 => .acceptLen b
  | 3 => .acceptSeq b
  | 4 => .acceptAddr b
  | _ => .acceptBody b

theorem storedByte_acceptOf (b : Byte) (n : Nat) : (acceptOf b n).storedByte = some b := by
  match n with
  | 0 | 1 | 2 | 3 | 4 | _ + 5 => rfl

/-- Before the CRC byte the receiver part of R66 selects the operation of the offset. -/
theorem receiverOp_midFrame {t : State} {f : List Byte} {n : Nat} {len : Byte} (hf : LegalHeader t.params f len)
    (hr : ReceiverMidFrame f n t) (hcount : t.rxCount.toNat = n) (hn : n + 1 < f.length) (hcap : f.length ≤ t.params.cap) :
    t.receiverOp = some (acceptOf t.ports.rxData n) := by
  have hx := hr.state
  match n with
  | 0 =>
    have hc : t.rxCount = 0 := BitVec.eq_of_toNat_eq hcount
    simp [State.receiverOp, acceptOf, hx, stateAwaiting, hc]
  | 1 =>
    have hc : t.rxCount = 1 := BitVec.eq_of_toNat_eq hcount
    simp [State.receiverOp, acceptOf, hx, stateAwaiting, hc]
  | 2 | 3 | 4 => simp [State.receiverOp, acceptOf, hx, stateAwaiting]
  | n + 5 =>
    have hlen : len = t.rxLen := Option.some.inj (hf.length.symm.trans (hr.len (by omega)))
    have hsize := hf.size
    have hroom : ¬ t.params.cap ≤ n + 5 := by omega
    have hmore : n + 3 ≠ t.rxLen.toNat := by rw [← hlen]; omega
    simp [State.receiverOp, acceptOf, hx, stateAwaiting, hcount, hroom, hmore]

/-- At the CRC byte it selects ACCEPT_CRC (R85). -/
theorem receiverOp_lastByte {t : State} {f : List Byte} {n : Nat} {len : Byte} (hf : LegalHeader t.params f len)
    (hr : ReceiverMidFrame f n t) (hcount : t.rxCount.toNat = n) (hn : n + 1 = f.length) (hcap : f.length ≤ t.params.cap) :
    t.receiverOp = some (.acceptCrc t.ports.rxData) := by
  have hsize := hf.size
  obtain ⟨hmin, -⟩ := hf.legal
  obtain ⟨k, rfl⟩ : ∃ k, n = k + 5 := ⟨n - 5, by omega⟩
  have hx : t.rxState = .accumulating := hr.state
  have hlen : len = t.rxLen := Option.some.inj (hf.length.symm.trans (hr.len (by omega)))
  have hroom : ¬ t.params.cap ≤ k + 5 := by omega
  have hlast : k + 5 + 1 = t.rxLen.toNat + 3 := by rw [← hlen]; omega
  simp [State.receiverOp, hx, hcount, hroom, hlast]

/-- What the operation of offset `n` does to the receiver registers, every check of a legal header holding (R78 to R83). -/
theorem receiverMidFrame_afterStore {s t : State} {f : List Byte} {n : Nat} {len b : Byte}
    (hf : LegalHeader t.params f len) (hs : s.HasStored f n t) (hr : ReceiverMidFrame f n t) (hb : f[n]? = some b) :
    ReceiverMidFrame f (n + 1) ((acceptOf b n).afterStore t (t.tick.storeByte b)) := by
  have hcrc : crc8Step t.rxCrc b = crc8 (f.take (n + 1)) := by
    rw [List.take_add_one, hb, Option.toList_some, crc8_append_byte, hr.crc]
  have hx := hr.state
  have hflags := hr.flags
  match n with
  | 0 => exact ⟨hx, by omega, hcrc, hflags⟩
  | 1 =>
    have hok : t.preambleOk b = true := by
      have hb' : b = t.params.pre1 := Option.some.inj (hb.symm.trans hf.pre1)
      simp [State.preambleOk, hs.readBuf (by omega) hf.pre0, hb']
    simp only [acceptOf, Instr.afterStore, hok, State.check_true]
    exact ⟨rfl, by omega, hcrc, hflags⟩
  | 2 =>
    have hok : lengthOk b = true := by
      rw [Option.some.inj (hb.symm.trans hf.length)]
      exact lengthOk_of_legal hf.legal
    simp only [acceptOf, Instr.afterStore, hok, State.check_true]
    exact ⟨rfl, fun _ => hb, hcrc, hflags⟩
  | 3 =>
    have hok : t.sequenceOk b = true := beq_iff_eq.mpr (Option.some.inj (hb.symm.trans hf.seq))
    simp only [acceptOf, Instr.afterStore, hok, State.check_true]
    exact ⟨rfl, fun _ => hr.len le_rfl, hcrc, hflags⟩
  | 4 =>
    have hok : t.addressOk b = true := beq_iff_eq.mpr (Option.some.inj (hb.symm.trans hf.addr))
    simp only [acceptOf, Instr.afterStore, hok, State.check_true]
    exact ⟨rfl, fun _ => hr.len (by omega), hcrc, hflags⟩
  | n + 5 => exact ⟨hx, fun _ => hr.len (by omega), hcrc, hflags⟩

/-! ## The run -/

/-- One edge more at the end of a run. -/
theorem run_succ_of_run {M : Host.Core} {n : Nat} {s t : M.State} (h : M.run n s = .next t) :
    M.run (n + 1) s = M.step t := by
  induction n generalizing s with
  | zero =>
    obtain rfl : s = t := Host.Outcome.next.inj h
    simp only [Host.Core.run]
    cases M.step s <;> rfl
  | succ n ih =>
    rw [Host.Core.run] at h ⊢
    cases hs : M.step s with
    | next u =>
      rw [hs] at h
      exact ih h
    | fault r => simp [hs] at h
    | refused r => simp [hs] at h

/-- An idle block with a byte on the ports in a receiving state runs the storing accept that the receiver selects, below
the cap. -/
theorem step_of_storing_receiverOp {t : State} {i : Instr} {b : Byte} (hd : t.dpState = .idle)
    (hx : t.rxState.receiving = true) (hrst : t.ports.rst = false) (hv : t.ports.rxValid = true)
    (hop : t.receiverOp = some i) (hi : i.storedByte = some b) (hcap : t.rxCount.toNat < t.params.cap) :
    step t = exec i t ∧ exec i t = .next (i.afterStore t (t.tick.storeByte b)) := by
  have hdisp : t.DispatcherOk := fun hw => by simp [hd] at hw
  have ha : t.accepts = true := by simp [State.accepts, State.rxReady, hrst, hv, hx]
  exact ⟨step_of_receiverOp hdisp ha hop, by rw [exec_eq_storing t hi, storing_of_lt hcap]⟩

section

variable {s t : State} {f : List Byte} {n : Nat} {len b : Byte}

/-- An armed receiver has taken no byte yet (R90). -/
theorem midFrame_of_armed (hinv : s.Inv) (hx : s.rxState = .awaitingPreamble) (hcount : s.rxCount = 0) (f : List Byte) :
    s.dpState = .idle ∧ s.HasStored f 0 s ∧ ReceiverMidFrame f 0 s := by
  obtain ⟨-, -, hflags⟩ : s.rxCount.toNat ≤ 1 ∧ s.rxLen = 0 ∧ s.rxFlags = 0 := by
    simpa [State.ReceiverShape, hx] using hinv.receiver
  have hcrc := hinv.crc
  simp only [State.RunningCrc, State.crcCovers, hx, hcount] at hcrc
  have hidle : s.dpState = .idle := by
    cases hd : s.dpState with
    | idle => rfl
    | wait => simpa [hx] using hinv.dispatcher hd
  exact ⟨hidle, ⟨rfl, by rw [hcount]; rfl, rfl, rfl, rfl, rfl, rfl⟩, ⟨hx, by omega, (Option.some.inj hcrc).symm, hflags⟩⟩

/-- After `n` stored bytes of an offered frame the ports carry byte `n`. -/
theorem State.HasStored.ports (h : s.HasStored f n t) (hoff : Offers s.inputs f) (hb : f[n]? = some b) :
    t.ports.rst = false ∧ t.ports.rxValid = true ∧ t.ports.rxData = b := by
  obtain ⟨p, rest, hdrop, hp⟩ := hoff.head hb
  rwa [State.ports_cons (h.inputs.trans hdrop)]

/-! An idle block is offered a frame with a legal header that fits `P_CAP`. -/

variable (hf : LegalHeader s.params f len) (hcap : f.length ≤ s.params.cap) (hidle : s.dpState = .idle)
  (hoff : Offers s.inputs f)
include hf hcap hidle hoff

/-- Each byte before the last is stored and leaves the receiver in the frame. -/
theorem step_midFrame (hs : s.HasStored f n t) (hr : ReceiverMidFrame f n t) (hn : n + 1 < f.length) :
    ∃ u, step t = .next u ∧ s.HasStored f (n + 1) u ∧ ReceiverMidFrame f (n + 1) u := by
  have hsize := hf.size
  obtain ⟨-, hmax⟩ := hf.legal
  obtain ⟨b, hb⟩ : ∃ b, f[n]? = some b := ⟨_, List.getElem?_eq_getElem (by omega)⟩
  obtain ⟨hrst, hv, hdata⟩ := hs.ports hoff hb
  obtain ⟨hd, -⟩ := hs.dispatcher
  rw [← hs.params] at hf hcap
  have hop := receiverOp_midFrame hf hr hs.count hn hcap
  rw [hdata] at hop
  have hi := storedByte_acceptOf b n
  obtain ⟨hstep, hexec⟩ := step_of_storing_receiverOp (hd.trans hidle) (hr.state ▸ receiving_stateAwaiting n) hrst hv
    hop hi (by rw [hs.count]; omega)
  exact ⟨_, hstep.trans hexec, hs.accept hb hi (by omega) hexec, receiverMidFrame_afterStore hf hs hr hb⟩

/-- The last byte is stored and settles the receiver, by the check of R85. -/
theorem step_lastByte (hs : s.HasStored f n t) (hr : ReceiverMidFrame f n t) (hn : n + 1 = f.length)
    (hb : f[n]? = some b) :
    ∃ u, step t = .next u ∧ s.HasStored f (n + 1) u ∧ u.rxLen = len ∧
      (b = crc8 (f.take n) → u.rxState = .complete ∧ u.rxFlags = 0) ∧
      (b ≠ crc8 (f.take n) → u.rxState = .faulted ∧ u.rxFlags = 0x10) := by
  have hsize := hf.size
  obtain ⟨hmin, hmax⟩ := hf.legal
  obtain ⟨hrst, hv, hdata⟩ := hs.ports hoff hb
  obtain ⟨hd, -⟩ := hs.dispatcher
  rw [← hs.params] at hf hcap
  have hop := receiverOp_lastByte hf hr hs.count hn hcap
  rw [hdata] at hop
  obtain ⟨hstep, hexec⟩ := step_of_storing_receiverOp (hd.trans hidle) (hr.state ▸ receiving_stateAwaiting n) hrst hv
    hop rfl (by rw [hs.count]; omega)
  have hlen : t.rxLen = len := Option.some.inj ((hr.len (by omega)).symm.trans hf.length)
  refine ⟨_, hstep.trans hexec, hs.accept hb rfl (by omega) hexec, ?_, ?_, ?_⟩
  · simp [Instr.afterStore, hlen]
  · intro hok
    have hyes : t.crcOk b = true := by simp [State.crcOk, hr.crc, hok]
    simp [Instr.afterStore, hyes, hr.flags]
  · intro hbad
    have hno : t.crcOk b = false := by simp [State.crcOk, hr.crc, hbad]
    simp [Instr.afterStore, hno, hr.flags, FramingFault.mask, FramingFault.code]

/-- Any number of edges short of the whole frame leaves the block in the frame (R73, R141). -/
theorem run_midFrame (hs : s.HasStored f 0 s) (hr : ReceiverMidFrame f 0 s) (n : Nat) (hn : n < f.length) :
    ∃ t, Host.Core.run Sys2Proof.core n s = .next t ∧ s.HasStored f n t ∧ ReceiverMidFrame f n t := by
  induction n with
  | zero => exact ⟨s, rfl, hs, hr⟩
  | succ n ih =>
    obtain ⟨t, hrun, hst, hrt⟩ := ih (by omega)
    obtain ⟨u, hstep, hu⟩ := step_midFrame hf hcap hidle hoff hst hrt hn
    exact ⟨u, (run_succ_of_run hrun).trans hstep, hu⟩

end

/-- In `Complete` the outputs show the opcode and the payload of the frame stored (R30, R31, R54). -/
theorem State.HasStored.outputs {s t : State} {p : Params} {opc c : Byte} {payload : List Byte} {n : Nat}
    (hs : s.HasStored (frameBody p opc payload ++ [c]) n t) (hn : n = payload.length + 7) (hx : t.rxState = .complete)
    (hlen : t.rxLen.toNat = payload.length + 4) (hlegal : lengthLegal t.rxLen) :
    t.frOpcode = opc ∧ t.plLen.toNat = payload.length ∧
      ∀ idx : Byte, idx.toNat < payload.length → payload[idx.toNat]? = some (t.plDataAt idx) := by
  refine ⟨?opcode, ?length, fun idx hidx => ?payload⟩
  case opcode =>
    rw [State.frOpcode, if_pos hx]
    exact hs.readBuf (i := 5) (by omega) rfl
  case length =>
    have hplen := State.payloadLen_toNat hlegal
    rw [State.plLen, if_pos hx]
    omega
  case payload =>
    have hbyte : (frameBody p opc payload ++ [c])[6 + idx.toNat]? = some payload[idx.toNat] := by
      simp [frameBody, Nat.add_comm 6, List.getElem?_append_left hidx]
    rw [State.plDataAt, if_pos ⟨hx, by omega⟩, State.payloadByte, payloadOffset, hs.readBuf (by omega) hbyte,
      List.getElem?_eq_getElem hidx]

/-- Settles O54: by induction on the edges the receiver is in the frame after each byte but the last, which settles it. -/
theorem frameIsReceivedInItsLength : Obligations.FrameIsReceivedInItsLength := by
  intro s opc payload c hinv hx hcount hpay hcap hoff
  obtain ⟨hidle, hs0, hr0⟩ := midFrame_of_armed hinv hx hcount (frameBody s.params opc payload ++ [c])
  have hf := legalHeader_frameBody s.params opc c hpay
  have hbody : (frameBody s.params opc payload).length = payload.length + 6 := by simp [frameBody]
  have hsize : (frameBody s.params opc payload ++ [c]).length = payload.length + 7 := by simp [hbody]
  obtain ⟨t, hrun, hst, hrt⟩ := run_midFrame hf (by omega) hidle hoff hs0 hr0 (payload.length + 6) (by omega)
  obtain ⟨u, hstep, hsu, hlen, hgood, hbad⟩ := step_lastByte (b := c) hf (by omega) hidle hoff hst hrt (by omega)
    (by simp [← hbody])
  obtain ⟨hdp, hcode, hflags⟩ := hsu.dispatcher
  rw [← hbody, List.take_left' rfl] at hgood hbad
  have hlen' : u.rxLen.toNat = payload.length + 4 := by
    rw [hlen, BitVec.toNat_ofNat]
    omega
  refine ⟨u, (run_succ_of_run hrun).trans hstep, ?bytes, hdp.trans hidle, hcode, hflags, hsu.inputs, hlen', ?good, hbad⟩
  case bytes => rw [hsu.bytes, List.take_of_length_le (by omega)]
  case good =>
    intro hc
    obtain ⟨hxu, hfu⟩ := hgood hc
    exact ⟨hxu, hfu, hsu.outputs rfl hxu hlen' ⟨by omega, by omega⟩⟩

end Sys2Proof.Machine

/-! SUPPORT. How the encoder, the decoder and R66 agree: the words of the encoder, the selection of R66 against the
decoded operation, and what the opcode classes and the fault bits come to. -/

namespace Sys2Proof.Machine

/-! ## The encoder's words -/

/-- The demultiplexer tells the two classes apart (R56). -/
theorem demux_eq_gcode_iff (p : Params) (b : Byte) : demux p b = .gcode ↔ b = p.opcGcode := by
  by_cases h : b = p.opcGcode <;> simp [demux, h]

theorem demux_eq_unknown_iff (p : Params) (b : Byte) : demux p b = .unknown b ↔ b ≠ p.opcGcode := by
  by_cases h : b = p.opcGcode <;> simp [demux, h]

theorem dispatchOf_opcGcode (p : Params) : dispatchOf p p.opcGcode = .dispatchGcode :=
  if_pos ((demux_eq_gcode_iff ..).mpr rfl)

theorem dispatchOf_of_ne {p : Params} {opc : Byte} (h : opc ≠ p.opcGcode) : dispatchOf p opc = .dispatchUnknown opc :=
  if_neg fun hg => h ((demux_eq_gcode_iff ..).mp hg)

/-- Where no row of RESET or the dispatcher matches, the receiver's row decides (R143). -/
theorem decode_accept {p : Params} {sel b len : Byte} {count : Count} {i : Instr}
    (hsel : ∀ r ∈ [rowReset, rowDispatchFaulted, rowDispatchComplete, rowInterpDone, rowWaitHold], r.hit sel = false)
    (hrow : receiverRow p (.accept sel b count len) = some i) : decode p (.edge (.accept sel b count len)) = .ok i := by
  simp only [List.forall_mem_cons] at hsel
  obtain ⟨hreset, hfaulted, hcomplete, hdone, hhold, -⟩ := hsel
  have he : (EdgeWord.accept sel b count len).sel = sel := rfl
  simp [decode, decodeEdge, dispatcherRow, he, hreset, hfaulted, hcomplete, hdone, hhold, hrow]

/-- Of the accumulating accepts the counter and the length pick one (R66). -/
theorem receiverRow_accumulating (p : Params) (b : Byte) (count : Count) (len : Byte) :
    receiverRow p (.accept 0x26 b count len) = some (
      if p.cap ≤ count.toNat then .acceptOversize b
      else if count.toNat + 1 = len.toNat + 3 then .acceptCrc b
      else .acceptBody b) := by
  simp [receiverRow, EdgeWord.accept, EdgeWord.blank, SelRow.hit, rowAcceptPreamble, rowAcceptLen, rowAcceptSeq,
    rowAcceptAddr, rowAcceptAccumulating, apply_ite some]

/-- A `Complete` frame's edge decodes to the operation of its opcode's class (R96, R97). -/
theorem decode_complete (p : Params) (opc : Byte) :
    decode p (.edge { EdgeWord.blank 0x28 with opcode := opc }) = .ok (dispatchOf p opc) := by
  simp [decode, decodeEdge, dispatcherRow, EdgeWord.blank, SelRow.hit, rowReset, rowDispatchFaulted, rowDispatchComplete]

/-- Every operation but REARM has a word. -/
theorem encode_isSome {p : Params} {i : Instr} (h : i ≠ .rearm) : (encode p i).isSome := by
  cases i with
  | rearm => exact absurd rfl h
  | _ => rfl

/-- The word of a well-formed operation decodes to it: where rows share a selector, by the quantities the word carries. -/
theorem decode_of_encode {p : Params} {i : Instr} {w : CodeWord} (hp : p.legal) (hi : i.wellFormed p = true)
    (hw : encode p i = some w) : decode p w = .ok i := by
  obtain ⟨hmin, hmax⟩ := hp
  cases i with
  | gcode => cases hw; exact congrArg _ ((demux_eq_gcode_iff ..).mpr rfl)
  | unknown opc => cases hw; exact congrArg _ ((demux_eq_unknown_iff ..).mpr (by simpa [Instr.wellFormed] using hi))
  | dispatchGcode => cases hw; rw [decode_complete, dispatchOf_opcGcode]
  | dispatchUnknown opc =>
    cases hw
    rw [decode_complete, dispatchOf_of_ne (by simpa [Instr.wellFormed] using hi)]
  | acceptOversize b =>
    cases hw
    have hcount : (BitVec.ofNat 9 p.cap).toNat = p.cap := by
      rw [BitVec.toNat_ofNat]
      omega
    exact decode_accept (by decide) (by rw [receiverRow_accumulating, if_pos hcount.ge])
  | acceptCrc b =>
    cases hw
    have hroom : ¬ p.cap ≤ (6 : Count).toNat := by simp; omega
    exact decode_accept (by decide) (by rw [receiverRow_accumulating, if_neg hroom, if_pos (by decide)])
  | acceptBody b =>
    cases hw
    have hroom : ¬ p.cap ≤ (5 : Count).toNat := by simp; omega
    exact decode_accept (by decide) (by rw [receiverRow_accumulating, if_neg hroom, if_neg (by decide)])
  | acceptPre0 b | acceptPre1 b | acceptLen b | acceptSeq b | acceptAddr b =>
    cases hw
    refine decode_accept (by decide) ?_
    simp [receiverRow, EdgeWord.accept, EdgeWord.blank, SelRow.hit, rowAcceptPreamble, rowAcceptLen, rowAcceptSeq,
      rowAcceptAddr]
  | interpDone f =>
    cases hw
    simp [decode, decodeEdge, dispatcherRow, EdgeWord.blank, SelRow.hit, rowReset, rowDispatchFaulted,
      rowDispatchComplete, rowInterpDone]
  | rearm => cases hw
  | reset | dispatchFaulted | waitHold | idle => cases hw; rfl

/-! ## R66 against the decoded operation -/

/-- Two parts fire exactly where the dispatcher selects an operation and so does an accepted byte (R66). -/
theorem twoParts_edgeWord (s : State) : twoParts s.params s.edgeWord = true ↔
    s.ports.rst = false ∧ s.dispatcherOp.isSome ∧ s.accepts = true ∧ s.receiverOp.isSome := by
  have hsel : s.edgeWord.sel = s.sel := rfl
  simp only [twoParts, hsel, rowReset_hit, dispatcherRow_edgeWord, receiverRow_edgeWord]
  cases s.ports.rst <;> cases s.accepts <;> simp

/-- Without a reset `rule66` lists the dispatcher's operation and the receiver's for an accepted byte. -/
theorem rule66_of_not_rst {s : State} (h : s.ports.rst = false) :
    s.rule66 = match s.dispatcherOp.toList ++ (if s.accepts then s.receiverOp else none).toList with
      | [] => [.idle]
      | l => l := by
  have ha : s.accepts = true ↔ s.ports.rxValid = true ∧ s.rxReady = true := by simp [State.accepts, h]
  simp only [State.rule66, h, ← ha]
  cases s.accepts <;> rfl

/-- Where two parts fire R66 selects two operations. -/
theorem rule66_of_twoParts {s : State} (h : twoParts s.params s.edgeWord = true) : s.rule66.length = 2 := by
  obtain ⟨hrst, hd, ha, hr⟩ := (twoParts_edgeWord s).mp h
  obtain ⟨i, hi⟩ := Option.isSome_iff_exists.mp hd
  obtain ⟨j, hj⟩ := Option.isSome_iff_exists.mp hr
  simp [rule66_of_not_rst hrst, ha, hi, hj]

/-- Where they do not, R66 selects the decoded operation alone. -/
theorem rule66_of_not_twoParts {s : State} (h : twoParts s.params s.edgeWord = false) :
    s.rule66 = [s.decodedOp] := by
  cases hrst : s.ports.rst with
  | true => simp [State.rule66, State.decodedOp, hrst]
  | false =>
    have htwo := (twoParts_edgeWord s).not.mp (by simp [h])
    rw [rule66_of_not_rst hrst]
    cases hd : s.dispatcherOp with
    | none => cases hr : (if s.accepts then s.receiverOp else none) <;> simp [State.decodedOp, hrst, hd, hr]
    | some i =>
      have hr : (if s.accepts then s.receiverOp else none) = none := by
        cases ha : s.accepts with
        | false => rfl
        | true => simpa [hrst, hd, ha] using htwo
      simp [decodedOp_of_dispatcherOp hrst hd, hr]

/-- Two parts fire in `WAIT` with a receiving `rx_state` only (R103, X8). -/
theorem wait_of_twoParts {s : State} (h : twoParts s.params s.edgeWord = true) :
    s.dpState = .wait ∧ s.rxState.receiving = true ∧ s.ports.rst = false := by
  obtain ⟨hrst, hd, ha, -⟩ := (twoParts_edgeWord s).mp h
  have hx := State.receiving_of_accepts ha
  refine ⟨?_, hx, hrst⟩
  by_contra hw
  have hnone := dispatcherOp_of_receiving (fun hw' => absurd hw' hw) hx
  simp [hnone] at hd

/-- R103 leaves no state where two parts fire. -/
theorem twoParts_of_dispatcherOk {s : State} (h : s.DispatcherOk) : twoParts s.params s.edgeWord = false := by
  rw [← Bool.not_eq_true]
  intro htwo
  obtain ⟨hw, hx, -⟩ := wait_of_twoParts htwo
  obtain ⟨hc, -⟩ := h hw
  simp [hc, RxState.receiving] at hx

/-- Where two parts do not fire, the edge runs the decoded operation. -/
theorem step_of_not_twoParts {s : State} (h : twoParts s.params s.edgeWord = false) : step s = exec s.decodedOp s := by
  rw [step_eq, h]
  rfl

/-- DISPATCH_UNKNOWN is selected for other opcodes than `P_OPC_GCODE` only (R56, R66). -/
theorem wellFormed_of_dispatcherOp {s : State} {i : Instr} (h : s.dispatcherOp = some i) :
    i.wellFormed s.params = true := by
  unfold State.dispatcherOp at h
  split_ifs at h with hfaulted hunknown
  · cases h; rfl
  · cases h; simp [Instr.wellFormed, hunknown]
  all_goals cases h; rfl

/-- An accept takes any byte (R78, R83). -/
theorem wellFormed_of_receiverOp {s : State} {i : Instr} (h : s.receiverOp = some i) :
    i.wellFormed s.params = true := by
  unfold State.receiverOp at h
  split_ifs at h <;> cases h <;> rfl

/-- The decoded operation is well-formed. -/
theorem wellFormed_decodedOp (s : State) : s.decodedOp.wellFormed s.params = true := by
  cases hrst : s.ports.rst with
  | true => simp [State.decodedOp, hrst, Instr.wellFormed]
  | false =>
    cases hd : s.dispatcherOp with
    | some i =>
      rw [decodedOp_of_dispatcherOp hrst hd]
      exact wellFormed_of_dispatcherOp hd
    | none =>
      have hop : s.decodedOp = (if s.accepts then s.receiverOp else none).getD .idle := by
        simp [State.decodedOp, hrst, hd]
      rw [hop]
      cases hr : (if s.accepts then s.receiverOp else none) with
      | none => rfl
      | some i =>
        obtain ⟨-, hi⟩ : s.accepts = true ∧ s.receiverOp = some i := by simpa using hr
        exact wellFormed_of_receiverOp hi

/-! ## Opcode classes and fault bits -/

/-- The edge of a settled frame does what its opcode's class does (R96, R97). -/
theorem step_of_complete {s : State} (hrst : s.ports.rst = false) (hd : s.dpState = .idle)
    (hx : s.rxState = .complete) : step s = exec (demux s.params s.opcode) s := by
  have hdisp : s.DispatcherOk := fun hw => by simp [hd] at hw
  rw [step_eq_exec hdisp]
  by_cases ho : s.opcode = s.params.opcGcode
  · have hop : s.dispatcherOp = some .dispatchGcode := by simp [State.dispatcherOp, hd, hx, ho]
    rw [decodedOp_of_dispatcherOp hrst hop, (demux_eq_gcode_iff ..).mpr ho]
    rfl
  · have hop : s.dispatcherOp = some (.dispatchUnknown s.opcode) := by simp [State.dispatcherOp, hd, hx, ho]
    rw [decodedOp_of_dispatcherOp hrst hop, (demux_eq_unknown_iff ..).mpr ho]
    rfl

/-- INTERP_DONE reports the interpreter's flags, none of them being the vector of `Success` (R99). -/
theorem resFlags_of_interpDone {s t : State} {g : BitVec 3} (h : exec (.interpDone g) s = .next t) :
    t.resFlags = commandVector g := by
  cases h
  split
  · next hg => rw [hg]; rfl
  · rfl

/-- A framing fault has the same number in `rx_flags` and in `res_flags` (R62). -/
theorem framingVector_toNat (f : BitVec 6) : (framingVector f).toNat = f.toNat := by
  have hf := f.isLt
  rw [framingVector, BitVec.zeroExtend, BitVec.toNat_setWidth]
  omega

/-- The interpreter's flags are bits 7 to 9 of the fault vector (R63). -/
theorem commandVector_bits (g : BitVec 3) :
    (commandVector g &&& CommandFault.mask .wrongGcode ≠ 0 ↔ g.getLsbD 0 = true) ∧
    (commandVector g &&& CommandFault.mask .badCoords ≠ 0 ↔ g.getLsbD 1 = true) ∧
    (commandVector g &&& CommandFault.mask .badFeed ≠ 0 ↔ g.getLsbD 2 = true) := by
  revert g
  decide

/-! ## The statements -/

/-- Settles O7. -/
theorem decodeOfEncode : Obligations.DecodeOfEncode :=
  fun _ _ hp hi => ⟨encode_isSome, fun _ => decode_of_encode hp hi⟩

/-- Settles O9: R66 selects two operations where two parts fire, and the decoded operation alone everywhere else. -/
theorem selectionIsRuleSixtySix : Obligations.SelectionIsRuleSixtySix := by
  refine ⟨fun s i h => ?_, fun s hinv => ⟨_, rule66_of_not_twoParts (twoParts_of_dispatcherOk hinv.dispatcher)⟩,
    fun s h => ?_⟩
  · cases htwo : twoParts s.params s.edgeWord with
    | true => simpa [h] using rule66_of_twoParts htwo
    | false =>
      obtain rfl : s.decodedOp = i := by simpa [rule66_of_not_twoParts htwo] using h
      exact step_of_not_twoParts htwo
  · cases htwo : twoParts s.params s.edgeWord with
    | true => rw [step_eq, htwo]; rfl
    | false => simp [rule66_of_not_twoParts htwo] at h

/-- Settles O10. -/
theorem twoPartsOnlyInUnreachableWait : Obligations.TwoPartsOnlyInUnreachableWait := by
  intro s h
  obtain ⟨hw, hx, hrst⟩ := wait_of_twoParts h
  refine ⟨hw, hx, hrst, fun hinv => ?_⟩
  simp [twoParts_of_dispatcherOk hinv.dispatcher] at h

/-- Settles O11. -/
theorem opcodeClassesDemultiplex : Obligations.OpcodeClassesDemultiplex :=
  ⟨fun p b => ⟨demux_eq_gcode_iff p b, demux_eq_unknown_iff p b⟩, fun _ => step_of_complete,
    fun s => ⟨s.tick.startInterpreter, rfl, rfl, rfl, rfl, ⟨rfl, rfl, rfl, rfl, rfl⟩, fun _ => rfl, rfl, rfl, rfl, rfl, rfl⟩,
    fun s _ => ⟨s.tick.finish .unknownCommand CommandFault.unknownOpcode.mask, rfl, ⟨rfl, rfl, rfl⟩,
      ⟨rfl, rfl, rfl, rfl, rfl⟩, rfl, rfl, fun _ => rfl, rfl, rfl, rfl⟩⟩

/-- Settles O39: the invariant's clauses for `Complete` say what a legal frame holds, offset by offset. -/
theorem completeFramesAreLegal : Obligations.CompleteFramesAreLegal := by
  intro s hinv hx
  obtain ⟨hcount, hlen, hflags⟩ : s.rxCount.toNat = s.rxLen.toNat + 3 ∧ lengthLegal s.rxLen ∧ s.rxFlags = 0 := by
    simpa [State.ReceiverShape, hx] using hinv.receiver
  obtain ⟨-, -, hcap, hwritten⟩ := hinv.buffer
  obtain ⟨hpre, hdeclared, hseq, haddr⟩ := hinv.header
  have hnofault : ∀ g : FramingFault, s.rxFlags ≠ g.mask := by
    intro g
    rw [hflags]
    cases g <;> decide
  have hmin := hlen.1
  obtain ⟨hpre0, hpre1⟩ := hpre (by omega) (hnofault _)
  obtain ⟨f, hf⟩ := Memory.exists_firstBytes hwritten
  have hsize := Memory.firstBytes_length hf
  have hbyte : ∀ {i b}, i < s.rxCount.toNat → s.buf.read i = some b → f[i]? = some b := fun hi hb =>
    (Memory.getElem?_firstBytes hf hi).trans hb
  have hcrc : crc8 f.dropLast = s.rxCrc := by
    have hcovered := hinv.crc
    simp only [State.RunningCrc, State.crcCovers, hx, true_or, if_true, hcount] at hcovered
    rw [hcount] at hf
    simpa [Memory.firstBytes_dropLast hf] using hcovered
  refine ⟨f, hf, hbyte (by omega) hpre0, hbyte (by omega) hpre1,
    ⟨s.rxLen, hbyte (by omega) (hdeclared (by omega)), hlen, by omega⟩,
    hbyte (by omega) (hseq (by omega) (hnofault _)), hbyte (by omega) (haddr (by omega) (hnofault _)), ?trailer, by omega⟩
  case trailer =>
    have hlast : f.length - 1 = s.rxLen.toNat + 2 := by omega
    rw [List.getLast?_eq_getElem?, hlast, hcrc]
    exact hbyte (by omega) (hinv.trailer.1 hx)

/-- Settles O6: each word is closed, so the decoder runs on it. -/
theorem writtenWordsDecode : Obligations.WrittenWordsDecode := by
  unfold Obligations.WrittenWordsDecode
  decide

/-- Settles O8: the decode of an edge answers the decoded operation, and a step runs it. -/
theorem stepRunsTheDecodedOperation : Obligations.StepRunsTheDecodedOperation := by
  intro s i hdec htwo
  obtain rfl : s.decodedOp = i := Except.ok.inj ((decode_edgeWord s).symm.trans hdec)
  exact ⟨wellFormed_decodedOp s, step_of_not_twoParts htwo⟩

/-- Settles O27. -/
theorem idleOnlyLowersThePulses : Obligations.IdleOnlyLowersThePulses :=
  fun s => ⟨s.tick, rfl, ⟨rfl, rfl⟩, ⟨rfl, rfl, rfl, rfl, rfl⟩, fun _ => rfl, ⟨rfl, rfl, rfl⟩, rfl, rfl, rfl⟩

/-- Settles O56: INTERP_DONE reports `commandVector`, whose bits 9 to 7 are the interpreter's flags. -/
theorem faultsHaveTheirBits : Obligations.FaultsHaveTheirBits := by
  refine ⟨⟨rfl, rfl, rfl, rfl, rfl, rfl⟩, ⟨rfl, rfl, rfl, rfl⟩, fun f => framingVector_toNat f.mask, fun s t g h => ?_⟩
  rw [resFlags_of_interpDone h]
  exact commandVector_bits g

end Sys2Proof.Machine

/-! SUPPORT. The CRC-8 step as eight steps of one shift register on `c ^ b`: the register's step is linear, and the
spec's other forms of CRC8_STEP (R70, R71) follow from it. -/

namespace Sys2Proof.Machine

/-! ## The shift register -/

/-- R71: one step of the byte-wise form, a shift with the taps XORed in when bit 7 was 1. -/
def tapShift (v : Byte) : Byte := if v.getLsbD 7 then (v <<< 1) ^^^ Config.crcPoly else v <<< 1

/-- The byte-wise form is eight register steps on `c ^ b`. -/
theorem crc8StepBytewise_eq_iterate (c b : Byte) : crc8StepBytewise c b = tapShift^[8] (c ^^^ b) := rfl

/-- What the feedback bit of R67 XORs into the shifted register. -/
def taps (feedback : Bool) : Byte := if feedback then Config.crcPoly else 0

/-- The taps are linear in the feedback bit. -/
theorem taps_xor (f g : Bool) : taps (f ^^ g) = taps f ^^^ taps g := by
  cases f <;> cases g <;> rfl

/-- The register's step as a shift and the taps of its bit 7. -/
theorem tapShift_eq (v : Byte) : tapShift v = v <<< 1 ^^^ taps (v.getLsbD 7) := by
  unfold tapShift taps
  cases v.getLsbD 7 <;> simp

/-- R67: one data bit. -/
theorem crc8Bit_eq (c : Byte) (bit : Bool) : crc8Bit c bit = c <<< 1 ^^^ taps (c.getLsbD 7 ^^ bit) := rfl

/-- A data bit enters CRC8_STEP as it would from bit 7 of a byte `d` XORed into the register, the rest of `d` still
to come. -/
theorem tapShift_xor_data (a d : Byte) : tapShift (a ^^^ d) = crc8Bit a (d.getLsbD 7) ^^^ d <<< 1 := by
  rw [tapShift_eq, crc8Bit_eq, BitVec.getLsbD_xor, BitVec.shiftLeft_xor_distrib]
  ac_rfl

/-- The register's step is linear over GF(2). -/
theorem tapShift_xor (v w : Byte) : tapShift (v ^^^ w) = tapShift v ^^^ tapShift w := by
  simp only [tapShift_eq, BitVec.getLsbD_xor, BitVec.shiftLeft_xor_distrib, taps_xor]
  ac_rfl

/-- So are any number of steps. -/
theorem tapShift_iterate_xor (n : Nat) (v w : Byte) : tapShift^[n] (v ^^^ w) = tapShift^[n] v ^^^ tapShift^[n] w := by
  induction n with
  | zero => rfl
  | succ n ih => simp only [Function.iterate_succ_apply', ih, tapShift_xor]

/-- R67's loop after `k` data bits: with the bits of `b` still to come XORed in, its state is the register's after `k`
steps on `c ^ b`. -/
theorem foldl_crc8Bit_xor_rest (c b : Byte) {k : Nat} (hk : k ≤ 8) :
    ((List.range k).map (7 - ·)).foldl (fun acc i => crc8Bit acc (b.getLsbD i)) c ^^^ b <<< k =
      tapShift^[k] (c ^^^ b) := by
  induction k with
  | zero => simp
  | succ k ih =>
    have hbit : (b <<< k).getLsbD 7 = b.getLsbD (7 - k) := by
      simp only [BitVec.getLsbD_shiftLeft, Nat.not_lt.mpr (Nat.le_of_succ_le_succ hk), decide_false, Bool.not_false,
        Nat.reduceLT, decide_true, Bool.true_and]
    rw [Function.iterate_succ_apply', ← ih (by omega), tapShift_xor_data, hbit, ← BitVec.shiftLeft_add]
    simp [List.range_succ]

/-- R71: CRC8_STEP is eight register steps on `c ^ b`. -/
theorem crc8Step_eq_iterate (c b : Byte) : crc8Step c b = tapShift^[8] (c ^^^ b) := by
  have hloop := foldl_crc8Bit_xor_rest c b le_rfl
  have hnone : b <<< 8 = 0#8 := BitVec.shiftLeft_eq_zero le_rfl
  rwa [hnone, BitVec.xor_zero] at hloop

/-- R70: CRC8_STEP depends on `c ^ b` only. -/
theorem crc8Step_eq_zero_xor (c b : Byte) : crc8Step c b = crc8Step 0 (c ^^^ b) := by
  simp [crc8Step_eq_iterate]

/-- R70: CRC8_STEP is linear in `c ^ b`. -/
theorem crc8Step_zero_xor (v w : Byte) : crc8Step 0 (v ^^^ w) = crc8Step 0 v ^^^ crc8Step 0 w := by
  simp [crc8Step_eq_iterate, tapShift_iterate_xor]

/-- R72: a byte equal to the CRC state takes it to zero. -/
theorem crc8Step_self (c : Byte) : crc8Step c c = 0 := by
  rw [crc8Step_eq_zero_xor, BitVec.xor_self]
  rfl

/-! ## The register bit by bit -/

/-- A register step on bits: bit 7 comes back at bit 0 and is XORed in at the other taps of 0x31, bits 4 and 5. -/
theorem tapShift_ofBoolListLE (b0 b1 b2 b3 b4 b5 b6 b7 : Bool) :
    tapShift (BitVec.ofBoolListLE [b0, b1, b2, b3, b4, b5, b6, b7]) =
      BitVec.ofBoolListLE [b7, b0, b1, b2, b3 ^^ b7, b4 ^^ b7, b5, b6] := by
  revert b0 b1 b2 b3 b4 b5 b6 b7
  decide

/-- A byte is the list of its bits, bit 0 first. -/
theorem ofBoolListLE_getLsbD (v : Byte) :
    BitVec.ofBoolListLE [v.getLsbD 0, v.getLsbD 1, v.getLsbD 2, v.getLsbD 3, v.getLsbD 4, v.getLsbD 5, v.getLsbD 6,
      v.getLsbD 7] = v := by
  apply BitVec.eq_of_getLsbD_eq
  intro i hi
  rw [BitVec.getLsbD_ofBoolListLE]
  match i, hi with
  | 0, _ | 1, _ | 2, _ | 3, _ | 4, _ | 5, _ | 6, _ | 7, _ => rfl

/-- Eight register steps on bits: in each bit of the result the XOR of bits that R70 lists. -/
theorem tapShift_iterate_ofBoolListLE (b0 b1 b2 b3 b4 b5 b6 b7 : Bool) :
    tapShift^[8] (BitVec.ofBoolListLE [b0, b1, b2, b3, b4, b5, b6, b7]) =
      BitVec.ofBoolListLE
        [ b0 ^^ b3 ^^ b4 ^^ b6
        , b1 ^^ b4 ^^ b5 ^^ b7
        , b2 ^^ b5 ^^ b6
        , b3 ^^ b6 ^^ b7
        , b0 ^^ b3 ^^ b6 ^^ b7
        , b0 ^^ b1 ^^ b3 ^^ b6 ^^ b7
        , b1 ^^ b2 ^^ b4 ^^ b7
        , b2 ^^ b3 ^^ b5 ] := by
  have hcancel (a b : Bool) : (a ^^ (a ^^ b)) = b := Bool.bne_self_left a b
  simp only [Function.iterate_succ_apply, Function.iterate_zero, id, tapShift_ofBoolListLE]
  congr 1
  simp only [Bool.xor_comm, Bool.xor_left_comm, Bool.xor_self, Bool.xor_false, hcancel]

/-- R70: CRC8_STEP is the parallel form. -/
theorem crc8Step_eq_parallel (c b : Byte) : crc8Step c b = crc8StepParallel c b := by
  rw [crc8Step_eq_iterate, ← ofBoolListLE_getLsbD (c ^^^ b), tapShift_iterate_ofBoolListLE, crc8StepParallel]

/-! ## The table and the residue -/

/-- R71: the first eight rows, entry by entry. -/
theorem crcTableLow_eq : crcTableLow = (List.range' 0 128).map fun v => crc8Step 0 (BitVec.ofNat 8 v) := by rfl

/-- R71: the last eight rows, entry by entry. -/
theorem crcTableHigh_eq : crcTableHigh = (List.range' 128 128).map fun v => crc8Step 0 (BitVec.ofNat 8 v) := by rfl

/-- R71: the table lists CRC8_STEP from zero of the 256 bytes in order. -/
theorem crcTable_eq : crcTable = (List.range 256).map fun v => crc8Step 0 (BitVec.ofNat 8 v) := by
  rw [crcTable, crcTableLow_eq, crcTableHigh_eq, ← List.map_append, List.range_eq_range', List.range'_append_1]

/-- R71: entry `v` of the table is CRC8_STEP of `v` from zero. -/
theorem crcTable_getElem? (v : Byte) : crcTable[v.toNat]? = some (crc8Step 0 v) := by
  rw [crcTable_eq, List.getElem?_map, List.getElem?_range v.isLt, Option.map_some, BitVec.ofNat_toNat, BitVec.setWidth_eq]

/-- R71: CRC8_STEP is the table form. -/
theorem crc8Step_eq_table (c b : Byte) : crc8Step c b = crc8StepTable c b := by
  rw [crc8StepTable, List.getD_eq_getElem?_getD, crcTable_getElem?, Option.getD_some, crc8Step_eq_zero_xor]

/-- R68: zero bytes leave the CRC at zero. -/
theorem crc8_replicate_zero (n : Nat) : crc8 (List.replicate n 0x00) = 0x00 := by
  induction n with
  | zero => rfl
  | succ n ih => rw [List.replicate_succ', crc8_append_byte, ih, crc8Step_self]

/-- R72: a message that ends with its own CRC has CRC zero. -/
theorem crc8_append_crc8 (m : List Byte) : crc8 (m ++ [crc8 m]) = 0x00 := by
  rw [crc8_append_byte, crc8Step_self]

/-- R72: a legal frame is its body with the body's CRC appended. -/
theorem LegalFrame.crc8_eq_zero {p : Params} {f : List Byte} (h : LegalFrame p f) : crc8 f = 0x00 := by
  obtain ⟨-, -, -, -, -, hlast, -⟩ := h
  rw [← List.dropLast_append_getLast? _ hlast]
  exact crc8_append_crc8 _

/-! ## The statements -/

/-- Settles O1: both forms are eight steps of one linear shift register on `c ^ b`. -/
theorem crc8StepIsTheParallelForm : Obligations.Crc8StepIsTheParallelForm :=
  ⟨crc8Step_eq_parallel, crc8Step_eq_zero_xor, crc8Step_zero_xor, by decide⟩

/-- Settles O2. -/
theorem crc8StepIsTheTable : Obligations.Crc8StepIsTheTable :=
  ⟨by simp [crcTable_eq], crcTable_getElem?, crc8Step_eq_table,
    fun c b => (crc8Step_eq_iterate c b).trans (crc8StepBytewise_eq_iterate c b).symm⟩

/-- Settles O4: a `Complete` frame is legal, so it ends with the CRC of its body. -/
theorem crc8ResidueIsZero : Obligations.Crc8ResidueIsZero := by
  refine ⟨crc8_append_crc8, fun s hinv hx => ?_⟩
  obtain ⟨f, hf, hlegal⟩ := completeFramesAreLegal s hinv hx
  obtain ⟨hcount, -⟩ : s.rxCount.toNat = s.rxLen.toNat + 3 ∧ lengthLegal s.rxLen ∧ s.rxFlags = 0 := by
    simpa [State.ReceiverShape, hx] using hinv.receiver
  exact ⟨f, hcount ▸ hf, hlegal.crc8_eq_zero⟩

/-- Settles O3: the check string's CRC is evaluated bit by bit. -/
theorem crc8TakesTheBytesInOrder : Obligations.Crc8TakesTheBytesInOrder :=
  ⟨rfl, crc8_append_byte, crc8_replicate_zero, by simp [crc8, crc8Step, crc8Bit, Config.crcInit, Config.crcPoly]⟩

end Sys2Proof.Machine

/-! SUPPORT. The byte accepts one by one: the condition of R66 that selects each, and what each does to the receiver. -/

namespace Sys2Proof.Machine

/-! ## The selection of each accept -/

/-- The line of R66 that selects an accept for the offered byte, with the lines above it excluded. -/
def State.Awaits (s : State) : Instr → Prop
  | .acceptPre0 b => s.rxState = .awaitingPreamble ∧ s.rxCount = 0 ∧ b = s.ports.rxData
  | .acceptPre1 b => s.rxState = .awaitingPreamble ∧ s.rxCount = 1 ∧ b = s.ports.rxData
  | .acceptLen b => s.rxState = .awaitingLength ∧ b = s.ports.rxData
  | .acceptSeq b => s.rxState = .awaitingSequence ∧ b = s.ports.rxData
  | .acceptAddr b => s.rxState = .awaitingAddress ∧ b = s.ports.rxData
  | .acceptOversize b => s.rxState = .accumulating ∧ s.params.cap ≤ s.rxCount.toNat ∧ b = s.ports.rxData
  | .acceptCrc b => s.rxState = .accumulating ∧ s.rxCount.toNat < s.params.cap ∧
      s.rxCount.toNat + 1 = s.rxLen.toNat + 3 ∧ b = s.ports.rxData
  | .acceptBody b => s.rxState = .accumulating ∧ s.rxCount.toNat < s.params.cap ∧
      s.rxCount.toNat + 1 ≠ s.rxLen.toNat + 3 ∧ b = s.ports.rxData
  | _ => False

/-- The receiver part of R66, one condition for each accept. -/
theorem receiverOp_eq_some_iff {s : State} {i : Instr} : s.receiverOp = some i ↔ s.Awaits i := by
  constructor
  · intro h
    unfold State.receiverOp at h
    split_ifs at h <;> cases h <;> simp_all [State.Awaits]
  · intro h
    cases i with
    | acceptPre0 b | acceptPre1 b =>
      obtain ⟨hx, hcount, rfl⟩ := h
      simp [State.receiverOp, hx, hcount]
    | acceptLen b | acceptSeq b | acceptAddr b =>
      obtain ⟨hx, rfl⟩ := h
      simp [State.receiverOp, hx]
    | acceptOversize b =>
      obtain ⟨hx, hcap, rfl⟩ := h
      simp [State.receiverOp, hx, hcap]
    | acceptCrc b =>
      obtain ⟨hx, hcap, hlast, rfl⟩ := h
      simp [State.receiverOp, hx, Nat.not_le.mpr hcap, hlast]
    | acceptBody b =>
      obtain ⟨hx, hcap, hmore, rfl⟩ := h
      simp only [State.receiverOp, hx, Nat.not_le.mpr hcap, hmore, reduceCtorEq, false_and, and_false, if_false, if_true]
    | _ => exact h.elim

/-- A receiver row of R143 matches exactly where a byte is accepted and R66 selects the row's operation for it. -/
theorem receiverRow_eq_some_iff {s : State} {i : Instr} :
    receiverRow s.params s.edgeWord = some i ↔ s.accepts = true ∧ s.Awaits i := by
  rw [receiverRow_edgeWord, ← receiverOp_eq_some_iff]
  cases s.accepts <;> simp

/-! ## The effect of each accept -/

/-- Below a legal cap a storing accept completes; it stores its byte and leaves the dispatcher alone (R76, R101). -/
theorem exec_accept_of_lt {s : State} {i : Instr} {b : Byte} (hp : s.params.legal) (hi : i.storedByte = some b)
    (hcap : s.rxCount.toNat < s.params.cap) :
    ∃ t, exec i s = .next t ∧ t = i.afterStore s (s.tick.storeByte b) ∧ s.Stored t b ∧
      s.SameDispatcher t ∧ t.PulsesLow ∧ s.EdgePassed t := by
  have hexec : exec i s = .next (i.afterStore s (s.tick.storeByte b)) := by
    rw [exec_eq_storing s hi, storing_of_lt hcap]
  obtain ⟨-, hbuf, hcount, hpulses, hdisp, hedge⟩ := exec_accept hi hexec
  refine ⟨_, hexec, rfl, ⟨fun x => ?_, ?_⟩, hdisp, hpulses, hedge⟩
  · rw [hbuf, Memory.read_write]
  · rw [hcount, count_succ_toNat (lt_of_lt_of_le hcap hp.2)]

/-- A field check as R79 to R82 and R85 state it: on to `x`, or the fault's bit and `Faulted`. -/
theorem checked_check {s t : State} {ok : Bool} {P : Prop} (hok : ok = true ↔ P) (x : RxState) (f : FramingFault)
    (hflags : t.rxFlags = s.rxFlags) : s.Checked (t.check ok x f) P x f.mask := by
  rw [State.Checked, ← hok, ← hflags]
  cases ok <;> simp

theorem preambleOk_iff {s : State} {b : Byte} :
    s.preambleOk b = true ↔ s.readBuf 0 = s.params.pre0 ∧ b = s.params.pre1 := by
  simp [State.preambleOk]

theorem lengthOk_iff {b : Byte} : lengthOk b = true ↔ lengthLegal b := by
  rw [lengthOk, Bool.and_eq_true, decide_eq_true_iff, decide_eq_true_iff]
  rfl

/-! ## The rows of R93 -/

theorem State.Inv.row_awaitingPreamble {s : State} (hinv : s.Inv) (hx : s.rxState = .awaitingPreamble) :
    s.rxCount.toNat ≤ 1 ∧ s.rxLen = 0 ∧ s.rxFlags = 0 := by
  simpa [State.ReceiverShape, hx] using hinv.receiver

theorem State.Inv.row_awaitingLength {s : State} (hinv : s.Inv) (hx : s.rxState = .awaitingLength) :
    s.rxCount.toNat = 2 ∧ s.rxLen = 0 ∧ s.rxFlags = 0 := by
  simpa [State.ReceiverShape, hx] using hinv.receiver

theorem State.Inv.row_awaitingSequence {s : State} (hinv : s.Inv) (hx : s.rxState = .awaitingSequence) :
    s.rxCount.toNat = 3 ∧ lengthLegal s.rxLen ∧ s.rxFlags = 0 := by
  simpa [State.ReceiverShape, hx] using hinv.receiver

theorem State.Inv.row_awaitingAddress {s : State} (hinv : s.Inv) (hx : s.rxState = .awaitingAddress) :
    s.rxCount.toNat = 4 ∧ lengthLegal s.rxLen ∧ s.rxFlags = 0 := by
  simpa [State.ReceiverShape, hx] using hinv.receiver

theorem State.Inv.row_accumulating {s : State} (hinv : s.Inv) (hx : s.rxState = .accumulating) :
    5 ≤ s.rxCount.toNat ∧ s.rxCount.toNat ≤ min (s.rxLen.toNat + 2) s.params.cap ∧ lengthLegal s.rxLen ∧
      s.rxFlags = 0 := by
  have hshape := hinv.receiver
  rwa [State.ReceiverShape, hx] at hshape

theorem State.Inv.row_complete {s : State} (hinv : s.Inv) (hx : s.rxState = .complete) :
    s.rxCount.toNat = s.rxLen.toNat + 3 ∧ lengthLegal s.rxLen ∧ s.rxFlags = 0 := by
  simpa [State.ReceiverShape, hx] using hinv.receiver

theorem State.Inv.row_faulted {s : State} (hinv : s.Inv) (hx : s.rxState = .faulted) : s.FaultShape := by
  simpa [State.ReceiverShape, hx] using hinv.receiver

/-! ## The statements -/

/-- Settles O12. -/
theorem acceptPre0TakesAnyByte : Obligations.AcceptPre0TakesAnyByte := by
  refine fun s b hp => ⟨receiverRow_eq_some_iff, fun hcap => ?_⟩
  obtain ⟨t, hexec, rfl, hstored, hframe⟩ := exec_accept_of_lt (i := .acceptPre0 b) hp rfl hcap
  exact ⟨_, hexec, hstored, rfl, rfl, rfl, rfl, hframe⟩

/-- Settles O13. -/
theorem acceptPre1ChecksThePreamble : Obligations.AcceptPre1ChecksThePreamble := by
  refine fun s b hp => ⟨receiverRow_eq_some_iff, fun hcap => ?_⟩
  obtain ⟨t, hexec, rfl, hstored, hframe⟩ := exec_accept_of_lt (i := .acceptPre1 b) hp rfl hcap
  exact ⟨_, hexec, hstored, State.check_rxCrc .., checked_check preambleOk_iff .awaitingLength .badPreamble rfl,
    State.check_rxLen .., hframe⟩

/-- Settles O14. -/
theorem acceptLenChecksTheLength : Obligations.AcceptLenChecksTheLength := by
  refine fun s b hp => ⟨receiverRow_eq_some_iff, fun hinv hx => (hinv.row_awaitingLength hx).1, fun hcap => ?_⟩
  obtain ⟨t, hexec, rfl, hstored, hframe⟩ := exec_accept_of_lt (i := .acceptLen b) hp rfl hcap
  exact ⟨_, hexec, hstored, State.check_rxLen .., State.check_rxCrc ..,
    checked_check lengthOk_iff .awaitingSequence .badLength rfl, hframe⟩

/-- Settles O15. -/
theorem acceptSeqChecksTheSequence : Obligations.AcceptSeqChecksTheSequence := by
  refine fun s b hp => ⟨receiverRow_eq_some_iff, fun hinv hx => (hinv.row_awaitingSequence hx).1, fun hcap => ?_⟩
  obtain ⟨t, hexec, rfl, hstored, hframe⟩ := exec_accept_of_lt (i := .acceptSeq b) hp rfl hcap
  exact ⟨_, hexec, hstored, State.check_rxCrc .., checked_check beq_iff_eq .awaitingAddress .badSequence rfl,
    State.check_rxLen .., hframe⟩

/-- Settles O16. -/
theorem acceptAddrChecksTheAddress : Obligations.AcceptAddrChecksTheAddress := by
  refine fun s b hp => ⟨receiverRow_eq_some_iff, fun hinv hx => (hinv.row_awaitingAddress hx).1, fun hcap => ?_⟩
  obtain ⟨t, hexec, rfl, hstored, hframe⟩ := exec_accept_of_lt (i := .acceptAddr b) hp rfl hcap
  exact ⟨_, hexec, hstored, State.check_rxCrc .., checked_check beq_iff_eq .accumulating .badAddress rfl,
    State.check_rxLen .., hframe⟩

/-- Settles O17. -/
theorem acceptBodyTakesAnyByte : Obligations.AcceptBodyTakesAnyByte := by
  refine fun s b hp => ⟨receiverRow_eq_some_iff, fun hcap => ?_⟩
  obtain ⟨t, hexec, rfl, hstored, hframe⟩ := exec_accept_of_lt (i := .acceptBody b) hp rfl hcap
  exact ⟨_, hexec, hstored, rfl, rfl, rfl, rfl, hframe⟩

/-- Settles O18: under the invariant `rx_count` in `Accumulating` is at most `P_CAP` and at most two more than the
declared length, which is at most 253. -/
theorem acceptOversizeDiscardsTheByte : Obligations.AcceptOversizeDiscardsTheByte := by
  refine ⟨fun s b => ⟨receiverRow_eq_some_iff, s.tick.raise .oversize, rfl, rfl, rfl, fun _ => rfl, rfl, rfl, rfl,
    ⟨rfl, rfl, rfl⟩, ⟨rfl, rfl⟩, rfl, rfl, rfl⟩, fun s b hinv h => ?_⟩
  obtain ⟨-, hx, hcap, -⟩ := receiverRow_eq_some_iff.mp h
  obtain ⟨-, hcount, ⟨-, hmax⟩, -⟩ := hinv.row_accumulating hx
  omega

/-- Settles O19. -/
theorem acceptCrcChecksTheTrailer : Obligations.AcceptCrcChecksTheTrailer := by
  refine fun s b hp => ⟨receiverRow_eq_some_iff, fun hcap => ?_⟩
  obtain ⟨t, hexec, rfl, hstored, hframe⟩ := exec_accept_of_lt (i := .acceptCrc b) hp rfl hcap
  exact ⟨_, hexec, hstored, State.check_rxCrc .., checked_check beq_iff_eq .complete .badCrc rfl,
    State.check_rxLen .., hframe⟩

/-- Settles O21. -/
theorem rearmClearsTheReceiver : Obligations.RearmClearsTheReceiver :=
  fun s => ⟨s.rearm, rfl, ⟨rfl, rfl, rfl, rfl, rfl⟩, rfl, ⟨rfl, rfl, rfl⟩, rfl, rfl, rfl, rfl, rfl⟩

end Sys2Proof.Machine

/-! SUPPORT. The invariant step by step: the kinds of edge, what a re-arm, a routed frame and each accept leave of it, and
what it says of the reachable states. -/

namespace Sys2Proof.Machine

/-! ## The kinds of edge -/

/-- An edge is a RESET, the dispatcher's, an accept, or IDLE (R66). -/
theorem decodedOp_cases (s : State) :
    (s.ports.rst = true ∧ s.decodedOp = .reset) ∨
    (s.ports.rst = false ∧ s.dispatcherOp = some s.decodedOp) ∨
    (s.accepts = true ∧ s.receiverOp = some s.decodedOp) ∨
    (s.ports.rst = false ∧ s.dispatcherOp = none ∧ s.decodedOp = .idle) := by
  cases hrst : s.ports.rst with
  | true => exact .inl ⟨rfl, by simp [State.decodedOp, hrst]⟩
  | false =>
    cases hd : s.dispatcherOp with
    | some i => exact .inr (.inl ⟨rfl, by rw [decodedOp_of_dispatcherOp hrst hd]⟩)
    | none =>
      have hop : s.decodedOp = (if s.accepts then s.receiverOp else none).getD .idle := by
        simp [State.decodedOp, hrst, hd]
      cases hr : (if s.accepts then s.receiverOp else none) with
      | none => exact .inr (.inr (.inr ⟨rfl, rfl, by rw [hop, hr]; rfl⟩))
      | some i =>
        obtain ⟨ha, hi⟩ : s.accepts = true ∧ s.receiverOp = some i := by simpa using hr
        exact .inr (.inr (.inl ⟨ha, by rw [hop, hr, hi]; rfl⟩))

/-- What is known of an operation's outcome holds of the state it gives. -/
theorem of_exec {i : Instr} {s t : State} {P : State → Prop} (hP : ∃ u, exec i s = .next u ∧ P u)
    (h : exec i s = .next t) : P t := by
  obtain ⟨u, hu, hPu⟩ := hP
  obtain rfl : u = t := Host.Outcome.next.inj (hu.symm.trans h)
  exact hPu

/-! ## Framing flags -/

theorem FramingFault.mask_ne_zero (f : FramingFault) : f.mask ≠ 0 := by
  cases f <;> decide

/-- Each framing fault has a bit of its own (R62). -/
theorem FramingFault.mask_injective : Function.Injective FramingFault.mask := by
  intro f g
  cases f <;> cases g <;> decide

/-- Each line of the `Faulted` row of R93 records one fault. -/
theorem State.FaultShape.exists_mask {s : State} (h : s.FaultShape) : ∃ f : FramingFault, s.rxFlags = f.mask := by
  rcases h with ⟨h, -⟩ | ⟨h, -⟩ | ⟨h, -⟩ | ⟨h, -⟩ | ⟨h, -⟩ | ⟨h, -⟩ <;> exact ⟨_, h⟩

section

variable {s t : State} {i : Instr} {b : Byte}

/-- Outside `Faulted` no flag is set (R92, R93). -/
theorem State.Inv.rxFlags_eq_zero (hinv : s.Inv) (hx : s.rxState ≠ .faulted) : s.rxFlags = 0 := by
  cases hs : s.rxState with
  | awaitingPreamble => exact (hinv.row_awaitingPreamble hs).2.2
  | awaitingLength => exact (hinv.row_awaitingLength hs).2.2
  | awaitingSequence => exact (hinv.row_awaitingSequence hs).2.2
  | awaitingAddress => exact (hinv.row_awaitingAddress hs).2.2
  | accumulating => exact (hinv.row_accumulating hs).2.2.2
  | complete => exact (hinv.row_complete hs).2.2
  | faulted => exact absurd hs hx

theorem ne_faulted_of_receiving (hx : s.rxState.receiving = true) : s.rxState ≠ .faulted := by
  rintro h
  simp [h, RxState.receiving] at hx

theorem ne_complete_of_receiving (hx : s.rxState.receiving = true) : s.rxState ≠ .complete := by
  rintro h
  simp [h, RxState.receiving] at hx

/-- While the receiver takes bytes no command is out (R103). -/
theorem State.Inv.idle_of_receiving (hinv : s.Inv) (hx : s.rxState.receiving = true) : s.dpState = .idle := by
  cases hd : s.dpState with
  | idle => rfl
  | wait => exact absurd (hinv.dispatcher hd).1 (ne_complete_of_receiving hx)

/-- Below `rx_count` every entry has been written (R93). -/
theorem State.Inv.read_eq_readBuf (hinv : s.Inv) {a : Nat} (ha : a < s.rxCount.toNat) :
    s.buf.read a = some (s.readBuf a) := by
  obtain ⟨-, -, -, hwritten⟩ := hinv.buffer
  obtain ⟨b, hb⟩ := Option.isSome_iff_exists.mp (hwritten a ha)
  rw [State.readBuf_of_some hb, hb]

/-- In a receiving state `rx_crc` covers every stored byte (R88). -/
theorem State.Inv.crc_of_receiving (hinv : s.Inv) (hx : s.rxState.receiving = true) :
    (s.buf.firstBytes s.rxCount.toNat).map crc8 = some s.rxCrc := by
  simpa [State.RunningCrc, State.crcCovers, ne_complete_of_receiving hx, ne_faulted_of_receiving hx] using hinv.crc

/-! ## Edges that store nothing -/

/-- A re-armed receiver with no command out and a result that some operation emits. -/
theorem inv_of_rearmed (hinv : s.Inv) (hbuf : t.buf = s.buf) (hparams : t.params = s.params) (ht : t.Rearmed)
    (hidle : t.dpState = .idle) (hresult : t.ResultOk) (hpulse : t.gcStart = false) : t.Inv := by
  obtain ⟨hx, hcount, hlen, hcrc, hflags⟩ := ht
  obtain ⟨hwf, hbound, -, -⟩ := hinv.buffer
  exact
    { legal := hparams ▸ hinv.legal
      receiver := by simp [State.ReceiverShape, hx, hcount, hlen, hflags]
      buffer := ⟨hbuf ▸ hwf, by rwa [hbuf, hparams], by simp [hcount], by simp [hcount]⟩
      header := by simp [State.HeaderOk, hcount]
      crc := by simp [State.RunningCrc, State.crcCovers, hx, hcount, hcrc, Memory.firstBytes, crc8, Config.crcInit]
      trailer := by simp [State.TrailerOk, hx]
      dispatcher := by simp [State.DispatcherOk, hidle]
      result := hresult
      pulses := by simp [State.PulsesOk, hx, hcount, hidle, hpulse] }

/-- The default writes of R101 lower the pulses only. -/
theorem State.Inv.tick (hinv : s.Inv) : s.tick.Inv :=
  { hinv with pulses := by simp [State.PulsesOk] }

/-- A routed frame stays in the receiver, with `P_OPC_GCODE` in `buf[5]` (R97, R103). -/
theorem inv_startInterpreter (hinv : s.Inv) (hx : s.rxState = .complete) (ho : s.opcode = s.params.opcGcode) :
    s.tick.startInterpreter.Inv := by
  obtain ⟨hcount, ⟨hmin, -⟩, -⟩ := hinv.row_complete hx
  have hread : s.buf.read 5 = some s.opcode := hinv.read_eq_readBuf (by omega)
  exact
    { hinv with
      dispatcher := fun _ => ⟨hx, hread.trans (congrArg some ho)⟩
      pulses := by simp [State.PulsesOk] }

/-- Every result that the dispatcher reports is one that R95, R96 or R99 lists. -/
theorem inv_of_dispatcherOp (hinv : s.Inv) (hop : s.dispatcherOp = some i) (h : exec i s = .next t) : t.Inv := by
  rcases dispatcherOp_cases s with ⟨hd, hx, hop'⟩ | ⟨hd, -, -, hop'⟩ | ⟨-, hx, ho, hop'⟩ | ⟨-, -, hop'⟩ | ⟨-, -, hop'⟩ |
    ⟨-, -, hop'⟩
  all_goals rw [hop'] at hop; cases hop
  all_goals cases h
  · obtain ⟨f, hf⟩ := (hinv.row_faulted hx).exists_mask
    exact inv_of_rearmed hinv rfl rfl ⟨rfl, rfl, rfl, rfl, rfl⟩ hd ⟨f, congrArg framingVector hf⟩ rfl
  · exact inv_of_rearmed hinv rfl rfl ⟨rfl, rfl, rfl, rfl, rfl⟩ hd rfl rfl
  · exact inv_startInterpreter hinv hx ho
  · split
    · exact inv_of_rearmed hinv rfl rfl ⟨rfl, rfl, rfl, rfl, rfl⟩ rfl rfl rfl
    · next hf => exact inv_of_rearmed hinv rfl rfl ⟨rfl, rfl, rfl, rfl, rfl⟩ rfl ⟨_, hf, rfl⟩ rfl
  · exact hinv.tick

/-- The discarded byte leaves the bytes stored so far, which end at `P_CAP` (R84, R113). -/
theorem inv_acceptOversize (hinv : s.Inv) (hx : s.rxState = .accumulating) (hcap : s.params.cap ≤ s.rxCount.toNat) :
    (s.tick.raise .oversize).Inv := by
  obtain ⟨-, hcount, hlen, hflags⟩ := hinv.row_accumulating hx
  have hflags' : (s.tick.raise .oversize).rxFlags = FramingFault.oversize.mask := by simp [hflags]
  obtain ⟨hpre, hdeclared, hseq, haddr⟩ := hinv.header
  have hne : ∀ f : FramingFault, s.rxFlags ≠ f.mask := fun f => hflags ▸ f.mask_ne_zero.symm
  exact
    { hinv.tick with
      receiver := .inr (.inr (.inr (.inr (.inr ⟨hflags', by simp; omega, hlen⟩))))
      header := ⟨fun hn _ => hpre hn (hne _), hdeclared, fun hn _ => hseq hn (hne _), fun hn _ => haddr hn (hne _)⟩
      crc := by
        have hcrc := hinv.crc_of_receiving (by simp [hx, RxState.receiving])
        simpa [State.RunningCrc, State.crcCovers, hflags, FramingFault.mask_injective.eq_iff] using hcrc
      trailer := by simp [State.TrailerOk, hflags, FramingFault.mask_injective.eq_iff]
      dispatcher := fun hw => by simp [hinv.idle_of_receiving (by simp [hx, RxState.receiving])] at hw
      pulses := by simp [State.PulsesOk] }

/-! ## Edges that store a byte -/

/-- What a header byte stored at `rx_count` must be: the field of its offset, or that field's fault is recorded (R57). -/
structure State.HeaderByte (s t : State) (b : Byte) : Prop where
  preamble : s.rxCount.toNat = 1 → t.rxFlags ≠ FramingFault.badPreamble.mask →
    s.readBuf 0 = s.params.pre0 ∧ b = s.params.pre1 := by omega
  length : s.rxCount.toNat = 2 → t.rxLen = b := by omega
  sequence : s.rxCount.toNat = 3 → t.rxFlags ≠ FramingFault.badSequence.mask → b = s.params.seq := by omega
  address : s.rxCount.toNat = 4 → t.rxFlags ≠ FramingFault.badAddress.mask → b = s.params.addr := by omega
  lengthKept : 3 ≤ s.rxCount.toNat → t.rxLen = s.rxLen := by omega

/-- The bytes stored before keep their values, and the new one has its own (R51, R57). -/
theorem headerOk_of_stored (hinv : s.Inv) (hx : s.rxState.receiving = true) (hstored : s.Stored t b)
    (hparams : t.params = s.params) (hbyte : s.HeaderByte t b) : t.HeaderOk := by
  obtain ⟨hread, hcount⟩ := hstored
  obtain ⟨hpre, hdeclared, hseq, haddr⟩ := hinv.header
  have hne : ∀ f : FramingFault, s.rxFlags ≠ f.mask := fun f =>
    hinv.rxFlags_eq_zero (ne_faulted_of_receiving hx) ▸ f.mask_ne_zero.symm
  have hkept : ∀ a < s.rxCount.toNat, t.buf.read a = s.buf.read a := fun a ha => by rw [hread, if_neg (by omega)]
  have hnew : ∀ a, s.rxCount.toNat = a → t.buf.read a = some b := fun a ha => by rw [hread, if_pos ha.symm]
  rw [State.HeaderOk, hparams, hcount]
  refine ⟨fun hn hf => ?preamble, fun hn => ?length, fun hn hf => ?sequence, fun hn hf => ?address⟩
  case preamble =>
    rcases (show 1 ≤ s.rxCount.toNat by omega).eq_or_lt with h1 | h1
    · obtain ⟨h0, rfl⟩ := hbyte.preamble h1.symm hf
      exact ⟨by rw [hkept 0 (by omega), hinv.read_eq_readBuf (by omega), h0], hnew 1 h1.symm⟩
    · rw [hkept 0 (by omega), hkept 1 h1]
      exact hpre h1 (hne _)
  case length =>
    rcases (show 2 ≤ s.rxCount.toNat by omega).eq_or_lt with h2 | h2
    · rw [hnew 2 h2.symm, hbyte.length h2.symm]
    · rw [hkept 2 h2, hbyte.lengthKept h2, hdeclared h2]
  case sequence =>
    rcases (show 3 ≤ s.rxCount.toNat by omega).eq_or_lt with h3 | h3
    · rw [hnew 3 h3.symm, hbyte.sequence h3.symm hf]
    · rw [hkept 3 h3, hseq h3 (hne _)]
  case address =>
    rcases (show 4 ≤ s.rxCount.toNat by omega).eq_or_lt with h4 | h4
    · rw [hnew 4 h4.symm, hbyte.address h4.symm hf]
    · rw [hkept 4 h4, haddr h4 (hne _)]

/-- A storing accept that completes stored its byte (R76). -/
theorem stored_of_exec (hp : s.params.legal) (hi : i.storedByte = some b) (h : exec i s = .next t) : s.Stored t b := by
  obtain ⟨hlt, -⟩ := exec_accept hi h
  obtain ⟨-, hstored, -⟩ := of_exec (exec_accept_of_lt hp hi hlt) h
  exact hstored

/-- The parts of the invariant that every storing accept keeps: the buffer, the dispatcher, the result, the pulses. -/
theorem inv_of_stored (hinv : s.Inv) (hx : s.rxState.receiving = true) (hi : i.storedByte = some b)
    (h : exec i s = .next t) (hshape : t.ReceiverShape) (hbyte : s.HeaderByte t b) (hcrc : t.RunningCrc)
    (htrailer : t.TrailerOk) : t.Inv := by
  obtain ⟨hlt, hbuf, -, ⟨hvalid, hstart⟩, ⟨hdp, hcode, hflags⟩, hparams, -⟩ := exec_accept hi h
  obtain ⟨hread, hcount⟩ := stored_of_exec hinv.legal hi h
  obtain ⟨hwf, hbound, -, hwritten⟩ := hinv.buffer
  have hidle : t.dpState = .idle := hdp.trans (hinv.idle_of_receiving hx)
  have hresult := hinv.result
  exact
    { legal := hparams ▸ hinv.legal
      receiver := hshape
      buffer := by
        refine ⟨hbuf ▸ Memory.wf_write _ b hwf, fun e he => ?_, by rw [hparams]; omega, fun a ha => ?_⟩
        · rw [hparams]
          rcases Memory.mem_write (hbuf ▸ he) with rfl | he
          · exact hlt
          · exact hbound e he
        · rw [hread]
          split
          · rfl
          · exact hwritten a (by omega)
      header := headerOk_of_stored hinv hx ⟨hread, hcount⟩ hparams hbyte
      crc := hcrc
      trailer := htrailer
      dispatcher := by simp [State.DispatcherOk, hidle]
      result := by rwa [State.ResultOk, hcode, hflags]
      pulses := by simp [State.PulsesOk, hvalid, hstart] }

/-- The first bytes after a store: those before, and the byte (R76). -/
theorem firstBytes_of_stored {l : List Byte} (hl : s.buf.firstBytes s.rxCount.toNat = some l) (hstored : s.Stored t b) :
    t.buf.firstBytes t.rxCount.toNat = some (l ++ [b]) := by
  obtain ⟨hread, hcount⟩ := hstored
  rw [hcount]
  refine Memory.firstBytes_succ ?_ (by rw [hread, if_pos rfl])
  rw [← hl]
  exact Memory.firstBytes_congr fun a ha => by rw [hread, if_neg ha.ne]

/-- An accept that folds its byte keeps the invariant, if what it leaves fits the table and the header (R88). -/
theorem inv_of_folded (hinv : s.Inv) (hx : s.rxState.receiving = true) (hi : i.storedByte = some b)
    (h : exec i s = .next t) (hfold : t.rxCrc = crc8Step s.rxCrc b) (hopen : t.rxState ≠ .complete)
    (hflag : t.rxFlags ≠ FramingFault.badCrc.mask) (hshape : t.ReceiverShape) (hbyte : s.HeaderByte t b) : t.Inv := by
  refine inv_of_stored hinv hx hi h hshape hbyte ?crc (by simp [State.TrailerOk, hopen, hflag])
  obtain ⟨l, hl, hcrc⟩ := Option.map_eq_some_iff.mp (hinv.crc_of_receiving hx)
  have hbytes := firstBytes_of_stored hl (stored_of_exec hinv.legal hi h)
  simp [State.RunningCrc, State.crcCovers, hopen, hflag, hbytes, hfold, crc8_append_byte, hcrc]

/-- The outcome of a check from a state with no flag set. -/
theorem checked_cases {P : Prop} {x : RxState} {bit : BitVec 6} (h : s.Checked t P x bit) (hflags : s.rxFlags = 0) :
    (P ∧ t.rxState = x ∧ t.rxFlags = 0) ∨ (¬ P ∧ t.rxState = .faulted ∧ t.rxFlags = bit) := by
  obtain ⟨hyes, hno⟩ := h
  by_cases hP : P
  · obtain ⟨hx, hf⟩ := hyes hP
    exact .inl ⟨hP, hx, hf.trans hflags⟩
  · obtain ⟨hx, hf⟩ := hno hP
    exact .inr ⟨hP, hx, by rw [hf, hflags]; exact BitVec.zero_or⟩

/-- A folded byte whose check leads on to `x` or to the fault `f`: it is left to show the row of R93 and the header for
either outcome. -/
theorem inv_of_checked {P : Prop} {x : RxState} {f : FramingFault} (hinv : s.Inv) (hx : s.rxState.receiving = true)
    (hi : i.storedByte = some b) (h : exec i s = .next t) (hfold : t.rxCrc = crc8Step s.rxCrc b)
    (hchecked : s.Checked t P x f.mask) (hopen : x ≠ .complete) (hf : f ≠ .badCrc)
    (hyes : P → t.rxState = x → t.rxFlags = 0 → t.ReceiverShape ∧ s.HeaderByte t b)
    (hno : ¬ P → t.rxFlags = f.mask → t.FaultShape ∧ s.HeaderByte t b) : t.Inv := by
  rcases checked_cases hchecked (hinv.rxFlags_eq_zero (ne_faulted_of_receiving hx)) with ⟨hP, hx', hflags'⟩ |
    ⟨hP, hx', hflags'⟩
  · obtain ⟨hshape, hbyte⟩ := hyes hP hx' hflags'
    exact inv_of_folded hinv hx hi h hfold (hx' ▸ hopen) (hflags' ▸ FramingFault.badCrc.mask_ne_zero.symm) hshape hbyte
  · obtain ⟨hshape, hbyte⟩ := hno hP hflags'
    refine inv_of_folded hinv hx hi h hfold (by simp [hx']) (hflags' ▸ FramingFault.mask_injective.ne hf) ?_ hbyte
    rw [State.ReceiverShape, hx']
    exact hshape

/-! Each accept in the state where R66 selects it: the row of R93 for the next offset, and for a failed check the line of
the `Faulted` row. -/

theorem inv_acceptPre0 (hinv : s.Inv) (hx : s.rxState = .awaitingPreamble) (hzero : s.rxCount = 0)
    (h : exec (.acceptPre0 b) s = .next t) : t.Inv := by
  have hcount : s.rxCount.toNat = 0 := by rw [hzero]; rfl
  obtain ⟨-, hlen, hflags⟩ := hinv.row_awaitingPreamble hx
  obtain ⟨hlt, -⟩ := exec_accept rfl h
  obtain ⟨⟨-, hcount'⟩, hfold, hx', hflags', hlen', -⟩ := of_exec ((acceptPre0TakesAnyByte s b hinv.legal).2 hlt) h
  rw [hx] at hx'
  rw [hflags] at hflags'
  refine inv_of_folded hinv (by rw [hx]; rfl) rfl h hfold (by simp [hx']) ?flag ?shape {}
  case flag => exact hflags' ▸ FramingFault.badCrc.mask_ne_zero.symm
  case shape =>
    rw [State.ReceiverShape, hx']
    exact ⟨by omega, hlen'.trans hlen, hflags'⟩

theorem inv_acceptPre1 (hinv : s.Inv) (hx : s.rxState = .awaitingPreamble) (hone : s.rxCount = 1)
    (h : exec (.acceptPre1 b) s = .next t) : t.Inv := by
  have hcount : s.rxCount.toNat = 1 := by rw [hone]; rfl
  obtain ⟨-, hlen, -⟩ := hinv.row_awaitingPreamble hx
  obtain ⟨hlt, -⟩ := exec_accept rfl h
  obtain ⟨⟨-, hcount'⟩, hfold, hchecked, hlen', -⟩ := of_exec ((acceptPre1ChecksThePreamble s b hinv.legal).2 hlt) h
  refine inv_of_checked (f := .badPreamble) hinv (by rw [hx]; rfl) rfl h hfold hchecked (by decide) (by decide)
    (fun hok hx' hflags' => ⟨?held, { preamble := fun _ _ => hok }⟩)
    (fun _ hflags' => ⟨?fault, { preamble := fun _ hf => absurd hflags' hf }⟩)
  case held =>
    rw [State.ReceiverShape, hx']
    exact ⟨by omega, hlen'.trans hlen, hflags'⟩
  case fault => exact .inl ⟨hflags', by omega, hlen'.trans hlen⟩

theorem inv_acceptLen (hinv : s.Inv) (hx : s.rxState = .awaitingLength)
    (h : exec (.acceptLen b) s = .next t) : t.Inv := by
  obtain ⟨hcount, -, -⟩ := hinv.row_awaitingLength hx
  obtain ⟨hlt, -⟩ := exec_accept rfl h
  obtain ⟨⟨-, hcount'⟩, hlen', hfold, hchecked, -⟩ := of_exec ((acceptLenChecksTheLength s b hinv.legal).2.2 hlt) h
  refine inv_of_checked (f := .badLength) hinv (by rw [hx]; rfl) rfl h hfold hchecked (by decide) (by decide)
    (fun hok hx' hflags' => ⟨?held, { length := fun _ => hlen' }⟩)
    (fun hbad hflags' => ⟨?fault, { length := fun _ => hlen' }⟩)
  case held =>
    rw [State.ReceiverShape, hx']
    exact ⟨by omega, hlen' ▸ hok, hflags'⟩
  case fault => exact .inr (.inl ⟨hflags', by omega, hlen' ▸ hbad⟩)

theorem inv_acceptSeq (hinv : s.Inv) (hx : s.rxState = .awaitingSequence)
    (h : exec (.acceptSeq b) s = .next t) : t.Inv := by
  obtain ⟨hcount, hlegal, -⟩ := hinv.row_awaitingSequence hx
  obtain ⟨hlt, -⟩ := exec_accept rfl h
  obtain ⟨⟨-, hcount'⟩, hfold, hchecked, hlen', -⟩ := of_exec ((acceptSeqChecksTheSequence s b hinv.legal).2.2 hlt) h
  rw [← hlen'] at hlegal
  refine inv_of_checked (f := .badSequence) hinv (by rw [hx]; rfl) rfl h hfold hchecked (by decide) (by decide)
    (fun hok hx' hflags' => ⟨?held, { sequence := fun _ _ => hok, lengthKept := fun _ => hlen' }⟩)
    (fun _ hflags' => ⟨?fault, { sequence := fun _ hf => absurd hflags' hf, lengthKept := fun _ => hlen' }⟩)
  case held =>
    rw [State.ReceiverShape, hx']
    exact ⟨by omega, hlegal, hflags'⟩
  case fault => exact .inr (.inr (.inl ⟨hflags', by omega, hlegal⟩))

theorem inv_acceptAddr (hinv : s.Inv) (hx : s.rxState = .awaitingAddress)
    (h : exec (.acceptAddr b) s = .next t) : t.Inv := by
  obtain ⟨hcount, hlegal, -⟩ := hinv.row_awaitingAddress hx
  obtain ⟨hlt, -⟩ := exec_accept rfl h
  obtain ⟨⟨-, hcount'⟩, hfold, hchecked, hlen', -, -, hparams, -⟩ :=
    of_exec ((acceptAddrChecksTheAddress s b hinv.legal).2.2 hlt) h
  obtain ⟨hcap, -⟩ := hinv.legal
  rw [← hlen'] at hlegal
  have hmin := hlegal.1
  refine inv_of_checked (f := .badAddress) hinv (by rw [hx]; rfl) rfl h hfold hchecked (by decide) (by decide)
    (fun hok hx' hflags' => ⟨?held, { address := fun _ _ => hok, lengthKept := fun _ => hlen' }⟩)
    (fun _ hflags' => ⟨?fault, { address := fun _ hf => absurd hflags' hf, lengthKept := fun _ => hlen' }⟩)
  case held =>
    rw [State.ReceiverShape, hx']
    exact ⟨by omega, le_min (by omega) (by rw [hparams]; omega), hlegal, hflags'⟩
  case fault => exact .inr (.inr (.inr (.inl ⟨hflags', by omega, hlegal⟩)))

theorem inv_acceptBody (hinv : s.Inv) (hx : s.rxState = .accumulating) (hmore : s.rxCount.toNat + 1 ≠ s.rxLen.toNat + 3)
    (h : exec (.acceptBody b) s = .next t) : t.Inv := by
  obtain ⟨hmin, hcount, hlegal, hflags⟩ := hinv.row_accumulating hx
  obtain ⟨hlt, -⟩ := exec_accept rfl h
  obtain ⟨⟨-, hcount'⟩, hfold, hx', hflags', hlen', -, -, hparams, -⟩ :=
    of_exec ((acceptBodyTakesAnyByte s b hinv.legal).2 hlt) h
  rw [hx] at hx'
  rw [hflags] at hflags'
  refine inv_of_folded hinv (by rw [hx]; rfl) rfl h hfold (by simp [hx']) ?flag ?shape { lengthKept := fun _ => hlen' }
  case flag => exact hflags' ▸ FramingFault.badCrc.mask_ne_zero.symm
  case shape =>
    rw [State.ReceiverShape, hx', hlen', hparams]
    exact ⟨by omega, by omega, hlegal, hflags'⟩

/-- The CRC byte is not folded: `rx_crc` covers the bytes before it, and the check says how it compares (R85, R88). -/
theorem inv_acceptCrc (hinv : s.Inv) (hx : s.rxState = .accumulating) (hlast : s.rxCount.toNat + 1 = s.rxLen.toNat + 3)
    (h : exec (.acceptCrc b) s = .next t) : t.Inv := by
  have hreceiving : s.rxState.receiving = true := by rw [hx]; rfl
  obtain ⟨hmin, -, hlegal, hflags⟩ := hinv.row_accumulating hx
  obtain ⟨hlt, -⟩ := exec_accept rfl h
  obtain ⟨⟨hread, hcount'⟩, hkept, hchecked, hlen', -⟩ := of_exec ((acceptCrcChecksTheTrailer s b hinv.legal).2 hlt) h
  have hcount : t.rxCount.toNat = t.rxLen.toNat + 3 := by rw [hlen']; omega
  have htrailer : t.buf.read (t.rxLen.toNat + 2) = some b := by rw [hread, if_pos (by rw [hlen']; omega)]
  have hbyte : s.HeaderByte t b := { lengthKept := fun _ => hlen' }
  have hcrc : (t.buf.firstBytes (t.rxCount.toNat - 1)).map crc8 = some t.rxCrc := by
    rw [hcount', Nat.add_sub_cancel, hkept, ← hinv.crc_of_receiving hreceiving]
    exact congrArg _ (Memory.firstBytes_congr fun a ha => by rw [hread, if_neg ha.ne])
  rw [← hlen'] at hlegal
  rw [← hkept] at hchecked
  rcases checked_cases hchecked hflags with ⟨hok, hx', hflags'⟩ | ⟨hbad, hx', hflags'⟩
  · refine inv_of_stored hinv hreceiving rfl h ?_ hbyte ?_ ?_
    · rw [State.ReceiverShape, hx']
      exact ⟨hcount, hlegal, hflags'⟩
    · rwa [State.RunningCrc, State.crcCovers, if_pos (.inl hx')]
    · exact ⟨fun _ => hok ▸ htrailer, by simp [hx']⟩
  · refine inv_of_stored hinv hreceiving rfl h ?_ hbyte ?_ ?_
    · rw [State.ReceiverShape, hx']
      exact .inr (.inr (.inr (.inr (.inl ⟨hflags', hcount, hlegal⟩))))
    · rwa [State.RunningCrc, State.crcCovers, if_pos (.inr ⟨hx', hflags'⟩)]
    · exact ⟨by simp [hx'], fun _ _ => ⟨b, htrailer, hbad⟩⟩

/-- Every accept that R66 selects keeps the invariant. -/
theorem inv_of_receiverOp (hinv : s.Inv) (hop : s.receiverOp = some i) (h : exec i s = .next t) : t.Inv := by
  have hsel := receiverOp_eq_some_iff.mp hop
  cases i with
  | acceptPre0 b =>
    obtain ⟨hx, hcount, -⟩ := hsel
    exact inv_acceptPre0 hinv hx hcount h
  | acceptPre1 b =>
    obtain ⟨hx, hcount, -⟩ := hsel
    exact inv_acceptPre1 hinv hx hcount h
  | acceptLen b => exact inv_acceptLen hinv hsel.1 h
  | acceptSeq b => exact inv_acceptSeq hinv hsel.1 h
  | acceptAddr b => exact inv_acceptAddr hinv hsel.1 h
  | acceptBody b =>
    obtain ⟨hx, -, hmore, -⟩ := hsel
    exact inv_acceptBody hinv hx hmore h
  | acceptCrc b =>
    obtain ⟨hx, -, hlast, -⟩ := hsel
    exact inv_acceptCrc hinv hx hlast h
  | acceptOversize b =>
    obtain ⟨hx, hcap, -⟩ := hsel
    cases h
    exact inv_acceptOversize hinv hx hcap
  | _ => exact hsel.elim

end

/-- Settles O34: RESET and the reports leave an empty receiver, a routed frame and an idle edge leave it alone, and each
accept leads on to the next row of R93 or to the row of its fault. -/
theorem stepKeepsTheInvariant : Obligations.StepKeepsTheInvariant := by
  intro s t hinv hstep
  have h := exec_decodedOp_of_step hstep
  rcases decodedOp_cases s with ⟨-, hop⟩ | ⟨-, hop⟩ | ⟨-, hop⟩ | ⟨-, -, hop⟩
  · rw [hop] at h
    cases h
    exact inv_of_rearmed hinv rfl rfl ⟨rfl, rfl, rfl, rfl, rfl⟩ rfl rfl rfl
  · exact inv_of_dispatcherOp hinv hop h
  · exact inv_of_receiverOp hinv hop h
  · rw [hop] at h
    cases h
    exact hinv.tick

end Sys2Proof.Machine

/-! SUPPORT. What the invariant says of the reachable states, what moves a settled receiver, which ports an edge samples,
and the CRC of messages that differ in one byte. -/

namespace Sys2Proof.Machine

/-! ## Reachable states -/

/-- Every reachable state meets the invariant: reset does and every step keeps it. -/
theorem Reachable.inv {s : State} (h : Reachable s) : s.Inv := by
  induction h with
  | reset p hp inputs edge => exact resetMeetsTheInvariant p inputs edge hp
  | step s t _ hstep ih => exact stepKeepsTheInvariant s t ih hstep

section

variable {s t : State} {i : Instr} {b : Byte}

/-- A storing accept is selected below `P_CAP` only (R41, R93). -/
theorem State.Inv.room_of_receiverOp (hinv : s.Inv) (hop : s.receiverOp = some i) (hi : i.storedByte = some b) :
    s.rxCount.toNat < s.params.cap := by
  obtain ⟨hcap, -⟩ := hinv.legal
  have hsel := receiverOp_eq_some_iff.mp hop
  cases i with
  | acceptPre0 | acceptPre1 =>
    obtain ⟨hcount, -⟩ := hinv.row_awaitingPreamble hsel.1
    omega
  | acceptLen =>
    obtain ⟨hcount, -⟩ := hinv.row_awaitingLength hsel.1
    omega
  | acceptSeq =>
    obtain ⟨hcount, -⟩ := hinv.row_awaitingSequence hsel.1
    omega
  | acceptAddr =>
    obtain ⟨hcount, -⟩ := hinv.row_awaitingAddress hsel.1
    omega
  | acceptBody | acceptCrc =>
    obtain ⟨-, hlt, -⟩ := hsel
    exact hlt
  | _ => cases hi

/-- From a state that meets the invariant every edge gives a next state: the one operation that can stop is a store at or
above `P_CAP`. -/
theorem State.Inv.exists_step (hinv : s.Inv) : ∃ t, step s = .next t := by
  rw [step_eq_exec hinv.dispatcher]
  cases hb : s.decodedOp.storedByte with
  | some b =>
    obtain ⟨-, hop⟩ := receiverOp_of_storedByte hb
    exact ⟨_, by rw [exec_eq_storing s hb, storing_of_lt (hinv.room_of_receiverOp hop hb)]⟩
  | none =>
    cases hop : s.decodedOp with
    | acceptPre0 | acceptPre1 | acceptLen | acceptSeq | acceptAddr | acceptBody | acceptCrc =>
      rw [hop] at hb
      cases hb
    | _ => exact ⟨_, rfl⟩

/-! ## A settled receiver -/

/-- A dispatcher operation that emits nothing routes or waits, and leaves the receiver's registers (R97, R98). -/
theorem sameReceiver_of_dispatcherOp (hop : s.dispatcherOp = some i) (hquiet : i.emits = false)
    (h : exec i s = .next t) : s.SameReceiver t := by
  rcases dispatcherOp_cases s with ⟨-, -, hop'⟩ | ⟨-, -, -, hop'⟩ | ⟨-, -, -, hop'⟩ | ⟨-, -, hop'⟩ | ⟨-, -, hop'⟩ |
    ⟨-, -, hop'⟩
  all_goals rw [hop'] at hop; cases hop
  · cases hquiet
  · cases hquiet
  · cases h
    exact ⟨rfl, rfl, rfl, rfl, rfl⟩
  · cases hquiet
  · cases h
    exact ⟨rfl, rfl, rfl, rfl, rfl⟩

/-- Where the dispatcher selects nothing the receiver takes bytes (R66, R94). -/
theorem receiving_of_dispatcherOp_none (h : s.dispatcherOp = none) : s.rxState.receiving = true := by
  rcases dispatcherOp_cases s with ⟨-, -, hop⟩ | ⟨-, -, -, hop⟩ | ⟨-, -, -, hop⟩ | ⟨-, -, hop⟩ | ⟨-, -, hop⟩ | ⟨-, hx, -⟩
  case inr.inr.inr.inr.inr => exact hx
  all_goals simp [hop] at h

/-! ## The ports an edge samples -/

/-- The operation of an edge takes the port values out of the list and reads none of them: its operand is the decode's. -/
theorem exec_drive (p q : Inputs) (hi : i ≠ .rearm) : exec i (s.drive p) = exec i (s.drive q) := by
  cases i with
  | rearm => exact absurd rfl hi
  | _ => rfl

/-- Two port values that select the same operation lead to the same outcome. -/
theorem step_drive_congr {p q : Inputs} (hop : (s.drive p).decodedOp = (s.drive q).decodedOp)
    (htwo : twoParts (s.drive p).params (s.drive p).edgeWord = twoParts (s.drive q).params (s.drive q).edgeWord) :
    step (s.drive p) = step (s.drive q) := by
  obtain ⟨-, -, hrearm⟩ := kind_of_decodedOp (s.drive p)
  rw [step_eq, step_eq, ← htwo, ← hop, exec_drive p q hrearm]

/-- With no byte accepted the edge is RESET, the dispatcher's or IDLE, and no second operation is selected (R77). -/
theorem decode_of_not_accepts (h : s.accepts = false) :
    s.decodedOp = (if s.ports.rst then .reset else s.dispatcherOp.getD .idle) ∧
      twoParts s.params s.edgeWord = false := by
  constructor
  · simp [State.decodedOp, h]
  · simp [twoParts, receiverRow_edgeWord, h]

/-- A state with listed inputs is one whose ports are driven with the first of them. -/
theorem State.exists_drive {p : Inputs} {rest : List Inputs} (h : s.inputs = p :: rest) :
    ∃ u : State, s = u.drive p ∧ ∀ q, { s with inputs := q :: rest } = u.drive q :=
  ⟨{ s with inputs := rest }, by rw [State.drive, ← h], fun _ => rfl⟩

end

/-! ## One wrong byte -/

/-- R71: no register but zero steps to zero, since bit 7 comes back at bit 0. -/
theorem eq_zero_of_tapShift_eq_zero {v : Byte} (h : tapShift v = 0) : v = 0 := by
  revert v
  decide

/-- The register's step loses nothing. -/
theorem tapShift_injective : Function.Injective tapShift := by
  intro v w h
  have hzero : tapShift (v ^^^ w) = 0 := by rw [tapShift_xor, h, BitVec.xor_self]; rfl
  exact BitVec.xor_eq_zero_iff.mp (eq_zero_of_tapShift_eq_zero hzero)

/-- CRC8_STEP depends on the whole of `c ^ b` (R70, R71). -/
theorem crc8Step_eq_iff (c c' b b' : Byte) : crc8Step c b = crc8Step c' b' ↔ c ^^^ b = c' ^^^ b' := by
  rw [crc8Step_eq_iterate, crc8Step_eq_iterate, (tapShift_injective.iterate 8).eq_iff]

/-- Bytes after it never make a wrong CRC state right. -/
theorem foldl_crc8Step_injective (m : List Byte) : Function.Injective fun c => m.foldl crc8Step c := by
  induction m with
  | nil => exact Function.injective_id
  | cons b m ih =>
    intro c c' h
    exact (BitVec.xor_left_inj b).mp ((crc8Step_eq_iff c c' b b).mp (ih h))

/-! ## The statements -/

/-- Settles O5: the wrong byte gives another CRC state, and the bytes after it keep the two apart. -/
theorem oneWrongByteChangesTheCrc : Obligations.OneWrongByteChangesTheCrc := by
  intro front back b b' hne h
  simp only [crc8, List.foldl_append, List.foldl_cons] at h
  exact hne ((BitVec.xor_right_inj _).mp ((crc8Step_eq_iff ..).mp (foldl_crc8Step_injective back h)))

/-- Settles O36. -/
theorem reachableStatesSatisfyTheTable : Obligations.ReachableStatesSatisfyTheTable := by
  intro s hs
  have hinv := hs.inv
  obtain ⟨-, -, hcap, hwritten⟩ := hinv.buffer
  obtain ⟨t, hstep⟩ := hinv.exists_step
  exact ⟨hinv.receiver, hwritten, ⟨hcap, hinv.legal.2⟩, by simp [hstep], fun hw => (hinv.dispatcher hw).1⟩

/-- Settles O37. -/
theorem runningCrcIsTheBufferCrc : Obligations.RunningCrcIsTheBufferCrc := by
  intro s hs
  have hcrc := hs.inv.crc
  rw [State.RunningCrc, State.crcCovers] at hcrc
  refine ⟨fun hopen => ?_, fun hclosed => by rwa [if_pos hclosed] at hcrc⟩
  rcases hopen with hx | ⟨hx, hflag⟩
  · exact hs.inv.crc_of_receiving hx
  · simpa [hx, hflag] using hcrc

/-- Settles O38. -/
theorem faultedHasExactlyOneFlag : Obligations.FaultedHasExactlyOneFlag := by
  intro s hs
  refine ⟨fun hx => ?_, hs.inv.rxFlags_eq_zero⟩
  obtain ⟨f, hf⟩ := (hs.inv.row_faulted hx).exists_mask
  exact ⟨f, hf, fun g hg => FramingFault.mask_injective (hg.symm.trans hf)⟩

/-- Settles O44: a settled receiver leaves the edge to RESET or to the dispatcher, whose operations either report and
re-arm or leave the receiver alone. -/
theorem settledReceiverChangesOnlyByRearm : Obligations.SettledReceiverChangesOnlyByRearm := by
  intro s t hsettled hstep
  have hx : s.rxState.receiving = false := by rcases hsettled with hx | hx <;> rw [hx] <;> rfl
  have hready : s.rxReady = false := by simp [State.rxReady, hx]
  have haccepts : s.accepts = false := by simp [State.accepts, hready]
  have hbuf : s.SameBuffer t := fun a => by
    by_contra hne
    obtain ⟨ha, -⟩ := onlyAcceptsWriteTheBuffer s t hstep a hne
    simp [haccepts] at ha
  refine ⟨hready, haccepts, hbuf, ?_⟩
  have h := exec_decodedOp_of_step hstep
  obtain ⟨hemits, -⟩ := kind_of_decodedOp s
  rcases decodedOp_cases s with ⟨hrst, hop⟩ | ⟨hrst, hop⟩ | ⟨ha, -⟩ | ⟨-, hnone, -⟩
  · rw [hop] at h
    cases h
    exact .inr ⟨⟨rfl, rfl, rfl, rfl, rfl⟩, .inr hrst⟩
  · cases he : s.decodedOp.emits with
    | true =>
      obtain ⟨hrearmed, -⟩ := exec_emits he h
      exact .inr ⟨hrearmed, .inl (hemits.mp he)⟩
    | false => exact .inl ⟨sameReceiver_of_dispatcherOp hop he h, fun hres => by simp [hemits.mpr hres] at he, hrst⟩
  · simp [haccepts] at ha
  · simp [receiving_of_dispatcherOp_none hnone] at hx

/-- Settles O49: with no byte accepted no operation with the operand `rx_data` is selected, and nothing reads `pl_idx`. -/
theorem dataSampledOnlyWhenAccepted : Obligations.DataSampledOnlyWhenAccepted := by
  intro s p rest b hs
  obtain ⟨u, rfl, hdrive⟩ := State.exists_drive hs
  rw [hdrive, hdrive]
  refine ⟨fun ha => ?_, step_drive_congr rfl rfl⟩
  have ha' : (u.drive { p with rxData := b }).accepts = false := ha
  obtain ⟨hop, htwo⟩ := decode_of_not_accepts ha
  obtain ⟨hop', htwo'⟩ := decode_of_not_accepts ha'
  exact step_drive_congr (hop'.trans hop.symm) (htwo'.trans htwo.symm)

end Sys2Proof.Machine

/-! SUPPORT. The dispatcher's part in a step: which edges select its operations, the results that it reports and holds,
and the interpreter's ports that it samples. -/

namespace Sys2Proof.Machine

/-! ## The selection of each dispatcher operation -/

/-- The line of R66 that selects a dispatcher operation, with the lines above it excluded. -/
def State.Dispatches (s : State) : Instr → Prop
  | .dispatchFaulted => s.dpState = .idle ∧ s.rxState = .faulted
  | .dispatchUnknown b => s.dpState = .idle ∧ s.rxState = .complete ∧ s.opcode ≠ s.params.opcGcode ∧ b = s.opcode
  | .dispatchGcode => s.dpState = .idle ∧ s.rxState = .complete ∧ s.opcode = s.params.opcGcode
  | .interpDone f => s.dpState = .wait ∧ s.ports.gcDone = true ∧ f = s.ports.gcFlags
  | .waitHold => s.dpState = .wait ∧ s.ports.gcDone = false
  | _ => False

section

variable {s t : State} {i : Instr}

/-- The dispatcher part of R66, one condition for each operation. -/
theorem dispatcherOp_eq_some_iff : s.dispatcherOp = some i ↔ s.Dispatches i := by
  constructor
  · intro h
    rcases dispatcherOp_cases s with ⟨hd, hx, hop⟩ | ⟨hd, hx, ho, hop⟩ | ⟨hd, hx, ho, hop⟩ | ⟨hd, hg, hop⟩ |
      ⟨hd, hg, hop⟩ | ⟨-, -, hop⟩
    all_goals rw [hop] at h; cases h
    · exact ⟨hd, hx⟩
    · exact ⟨hd, hx, ho, rfl⟩
    · exact ⟨hd, hx, ho⟩
    · exact ⟨hd, hg, rfl⟩
    · exact ⟨hd, hg⟩
  · intro h
    cases i with
    | dispatchFaulted =>
      obtain ⟨hd, hx⟩ := h
      simp [State.dispatcherOp, hd, hx]
    | dispatchUnknown b =>
      obtain ⟨hd, hx, ho, rfl⟩ := h
      simp [State.dispatcherOp, hd, hx, ho]
    | dispatchGcode =>
      obtain ⟨hd, hx, ho⟩ := h
      simp [State.dispatcherOp, hd, hx, ho]
    | interpDone f =>
      obtain ⟨hd, hg, rfl⟩ := h
      simp [State.dispatcherOp, hd, hg]
    | waitHold =>
      obtain ⟨hd, hg⟩ := h
      simp [State.dispatcherOp, hd, hg]
    | _ => exact h.elim

/-- An operation that neither the receiver selects nor R66 runs alone is decoded exactly where the dispatcher selects it
and no reset comes. -/
theorem decode_eq_ok_iff (hreceiver : ¬ s.Awaits i) (hreset : i ≠ .reset) (hidle : i ≠ .idle) :
    decode s.params (.edge s.edgeWord) = .ok i ↔ s.ports.rst = false ∧ s.Dispatches i := by
  rw [decode_edgeWord, Except.ok.injEq]
  constructor
  · rintro rfl
    rcases decodedOp_cases s with ⟨-, hop⟩ | ⟨hrst, hop⟩ | ⟨-, hop⟩ | ⟨-, -, hop⟩
    · exact absurd hop hreset
    · exact ⟨hrst, dispatcherOp_eq_some_iff.mp hop⟩
    · exact absurd (receiverOp_eq_some_iff.mp hop) hreceiver
    · exact absurd hop hidle
  · rintro ⟨hrst, h⟩
    exact decodedOp_of_dispatcherOp hrst (dispatcherOp_eq_some_iff.mpr h)

/-- RESET is selected with `rst` only (R127). -/
theorem decodedOp_ne_reset (hrst : s.ports.rst = false) : s.decodedOp ≠ .reset := by
  intro h
  rcases decodedOp_cases s with ⟨hrst', -⟩ | ⟨-, hop⟩ | ⟨-, hop⟩ | ⟨-, -, hop⟩
  · simp [hrst] at hrst'
  · rw [h] at hop
    exact dispatcherOp_eq_some_iff.mp hop
  · rw [h] at hop
    exact receiverOp_eq_some_iff.mp hop
  · cases h.symm.trans hop

/-! ## The results -/

/-- INTERP_DONE reports the interpreter's flags; no flag is the empty vector of `Success` (R99). -/
theorem exec_interpDone_eq (f : BitVec 3) (s : State) :
    exec (.interpDone f) s =
      .next (s.tick.endCommand.finish (if f = 0 then .success else .badCommand) (commandVector f)) := by
  by_cases hf : f = 0
  · subst hf
    rfl
  · rw [if_neg hf]
    exact congrArg _ (if_neg hf)

/-- The interpreter's flags are `res_flags[9:7]`, and nothing stands below them (R63, R99). -/
theorem commandVector_fields (f : BitVec 3) :
    (commandVector f).extractLsb' 7 3 = f ∧ (commandVector f).extractLsb' 0 7 = 0 := by
  revert f
  decide

/-- A framing fault's vector is one of bits 0 to 5 (R62, R95). -/
theorem framingVector_mask_mem (f : FramingFault) :
    framingVector f.mask ∈ [0x001#10, 0x002#10, 0x004#10, 0x008#10, 0x010#10, 0x020#10] := by
  cases f <;> decide

/-- The fault bits of a result against its kind: framing bits, the unknown opcode's bit and the interpreter's bits each
belong to one code, and no two of the tiers meet (R105). -/
def FlagsFit (c : ResCode) (v : BitVec 10) : Prop :=
  (v.extractLsb' 0 6 = 0 ∨ v.extractLsb' 6 4 = 0) ∧
  (c = .badPackage ↔ v.extractLsb' 0 6 ≠ 0) ∧
  (c = .unknownCommand ↔ v.getLsbD 6 = true) ∧
  (c = .badCommand ↔ v.extractLsb' 7 3 ≠ 0)

theorem flagsFit_success : FlagsFit .success 0 := by
  unfold FlagsFit
  decide

theorem flagsFit_badPackage (f : FramingFault) : FlagsFit .badPackage (framingVector f.mask) := by
  unfold FlagsFit
  cases f <;> decide

theorem flagsFit_unknownCommand : FlagsFit .unknownCommand CommandFault.unknownOpcode.mask := by
  unfold FlagsFit
  decide

theorem flagsFit_badCommand {g : BitVec 3} (hg : g ≠ 0) : FlagsFit .badCommand (commandVector g) := by
  unfold FlagsFit
  revert g
  decide

/-- The results of R95, R96 and R99 all fit, and so does the reset value. -/
theorem State.ResultOk.flagsFit (h : s.ResultOk) : FlagsFit s.resCode s.resFlags := by
  unfold State.ResultOk at h
  cases hc : s.resCode with
  | success =>
    rw [hc] at h
    exact h ▸ flagsFit_success
  | badPackage =>
    rw [hc] at h
    obtain ⟨f, hf⟩ := h
    exact hf ▸ flagsFit_badPackage f
  | unknownCommand =>
    rw [hc] at h
    exact h ▸ flagsFit_unknownCommand
  | badCommand =>
    rw [hc] at h
    obtain ⟨g, hg, hflags⟩ := h
    exact hflags ▸ flagsFit_badCommand hg

/-- `res_valid` shows whether the edge's operation emitted (R24, R101). -/
theorem resValid_of_step (h : step s = .next t) : t.resValid = s.decodedOp.emits := by
  obtain ⟨-, -, hrearm⟩ := kind_of_decodedOp s
  obtain ⟨hvalid, -⟩ := exec_pulses hrearm (exec_decodedOp_of_step h)
  exact hvalid

/-- An operation that emits no result leaves the held one; only RESET clears it (R102, R127). -/
theorem exec_holds_result (hreset : i ≠ .reset) (hquiet : i.emits = false) (h : exec i s = .next t) :
    t.resCode = s.resCode ∧ t.resFlags = s.resFlags := by
  cases i with
  | acceptPre0 | acceptPre1 | acceptLen | acceptSeq | acceptAddr | acceptBody | acceptCrc =>
    obtain ⟨-, -, -, -, ⟨-, hcode, hflags⟩, -⟩ := exec_accept rfl h
    exact ⟨hcode, hflags⟩
  | dispatchFaulted | dispatchUnknown | unknown | interpDone => cases hquiet
  | reset => exact absurd rfl hreset
  | _ => cases h; exact ⟨rfl, rfl⟩

/-- The state with another held result. -/
def State.withResult (s : State) (c : ResCode) (g : BitVec 10) : State := { s with resCode := c, resFlags := g }

/-- A result overwrites both result registers (R102). -/
theorem exec_withResult (hi : i.emits = true) (c : ResCode) (g : BitVec 10) : exec i (s.withResult c g) = exec i s := by
  cases i with
  | dispatchFaulted | dispatchUnknown | unknown => rfl
  | interpDone f =>
    rw [exec_interpDone_eq, exec_interpDone_eq]
    rfl
  | _ => cases hi

/-- The selection of R66 does not read the held result, and an edge that emits one does not either. -/
theorem step_withResult (hi : s.decodedOp.emits = true) (c : ResCode) (g : BitVec 10) :
    step (s.withResult c g) = step s := by
  have hop : (s.withResult c g).decodedOp = s.decodedOp := rfl
  have htwo : twoParts (s.withResult c g).params (s.withResult c g).edgeWord = twoParts s.params s.edgeWord := rfl
  rw [step_eq, step_eq, htwo, hop, exec_withResult hi]

/-! ## The interpreter's ports -/

/-- In `IDLE` the dispatcher reads no port (R100). -/
theorem dispatches_drive_of_idle (hd : s.dpState = .idle) (p q : Inputs) :
    (s.drive p).Dispatches i ↔ (s.drive q).Dispatches i := by
  cases i with
  | interpDone | waitHold => simp [State.Dispatches, hd]
  | _ => exact Iff.rfl

/-- Without `gc_done` the dispatcher reads no flag: the one operation that takes them is not selected (R98, R139). -/
theorem dispatches_drive_of_not_gcDone {p q : Inputs} (hp : p.gcDone = false) (hq : q.gcDone = false) :
    (s.drive p).Dispatches i ↔ (s.drive q).Dispatches i := by
  cases i with
  | interpDone | waitHold => simp [State.Dispatches, hp, hq]
  | _ => exact Iff.rfl

/-- The interpreter's ports reach a step through the dispatcher's selection alone. -/
theorem step_drive_gc_congr {p : Inputs} {d : Bool} {g : BitVec 3}
    (h : ∀ i, (s.drive { p with gcDone := d, gcFlags := g }).Dispatches i ↔ (s.drive p).Dispatches i) :
    step (s.drive { p with gcDone := d, gcFlags := g }) = step (s.drive p) := by
  have hop : (s.drive { p with gcDone := d, gcFlags := g }).dispatcherOp = (s.drive p).dispatcherOp :=
    Option.ext fun i => by rw [dispatcherOp_eq_some_iff, dispatcherOp_eq_some_iff, h]
  refine step_drive_congr ?_ ?_
  · rw [State.decodedOp, hop]
    rfl
  · rw [Bool.eq_iff_iff, twoParts_edgeWord, twoParts_edgeWord, hop]
    rfl

end

/-! ## The statements -/

/-- Settles O40: the invariant lists the results that an operation emits, and each of them fits its code. -/
theorem resultTiersNeverMix : Obligations.ResultTiersNeverMix :=
  fun _ hs => hs.inv.result.flagsFit

/-- Settles O46: the pulse says whether the edge's operation emits; one that does not holds the result, and one that does
overwrites it. -/
theorem resultsAreHeldAndReplaced : Obligations.ResultsAreHeldAndReplaced := by
  refine ⟨fun s t hstep hrst hquiet => ?held, fun s t c g hstep hv => ?replaced⟩
  case held =>
    exact exec_holds_result (decodedOp_ne_reset hrst) ((resValid_of_step hstep).symm.trans hquiet)
      (exec_decodedOp_of_step hstep)
  case replaced =>
    exact (step_withResult ((resValid_of_step hstep).symm.trans hv) c g).trans hstep

/-- Settles O47: `gc_start` shows that DISPATCH_GCODE was selected. -/
theorem onlyGcodeFramesAreRouted : Obligations.OnlyGcodeFramesAreRouted := by
  intro s t hstep hpulse
  obtain ⟨-, hroutes⟩ := step_pulses hstep
  obtain ⟨hrst, hd, hx, ho⟩ := hroutes.mp hpulse
  exact ⟨hx, ho, hd, hrst⟩

/-- Settles O48: in `IDLE`, and in `WAIT` without `gc_done`, the dispatcher's selection is the same for all the values. -/
theorem interpreterSampledOnlyWhenWaiting : Obligations.InterpreterSampledOnlyWhenWaiting := by
  intro s p rest d g hs
  obtain ⟨u, rfl, hdrive⟩ := State.exists_drive hs
  rw [hdrive, hdrive]
  exact ⟨fun hd => step_drive_gc_congr fun _ => dispatches_drive_of_idle hd _ p,
    fun hdone => step_drive_gc_congr fun _ => dispatches_drive_of_not_gcDone hdone hdone⟩

/-- Settles O22. -/
theorem dispatchFaultedReportsTheFault : Obligations.DispatchFaultedReportsTheFault := by
  refine fun s => ⟨decode_eq_ok_iff id nofun nofun, fun hinv hx => ?oneBit,
    s.tick.finish .badPackage (framingVector s.rxFlags), rfl, ⟨rfl, rfl, rfl⟩, ⟨rfl, rfl, rfl, rfl, rfl⟩, rfl, rfl,
    fun _ => rfl, rfl, rfl, rfl⟩
  case oneBit =>
    obtain ⟨f, hf⟩ := (hinv.row_faulted hx).exists_mask
    rw [hf]
    exact framingVector_mask_mem f

/-- Settles O23: R114 records the opcode nowhere. -/
theorem dispatchUnknownReportsTheOpcode : Obligations.DispatchUnknownReportsTheOpcode :=
  fun s _ => ⟨decode_eq_ok_iff id nofun nofun, s.tick.finish .unknownCommand CommandFault.unknownOpcode.mask, rfl,
    ⟨rfl, rfl, rfl⟩, ⟨rfl, rfl, rfl, rfl, rfl⟩, rfl, rfl, fun _ => rfl, rfl, rfl, rfl⟩

/-- Settles O24. -/
theorem dispatchGcodeRoutesTheFrame : Obligations.DispatchGcodeRoutesTheFrame :=
  fun s => ⟨decode_eq_ok_iff id nofun nofun, s.tick.startInterpreter, rfl, rfl, rfl, rfl, ⟨rfl, rfl, rfl, rfl, rfl⟩,
    fun _ => rfl, rfl, rfl, rfl, rfl, rfl⟩

/-- Settles O25. -/
theorem waitHoldOnlyLowersThePulses : Obligations.WaitHoldOnlyLowersThePulses :=
  fun s => ⟨decode_eq_ok_iff id nofun nofun, s.tick, rfl, ⟨rfl, rfl⟩, ⟨rfl, rfl, rfl, rfl, rfl⟩, fun _ => rfl,
    ⟨rfl, rfl, rfl⟩, rfl, rfl, rfl⟩

/-- Settles O26: the reported vector is `commandVector f`, with the flags in its top three bits. -/
theorem interpDoneFoldsTheFlags : Obligations.InterpDoneFoldsTheFlags := by
  intro s f
  obtain ⟨hflags, hrest⟩ := commandVector_fields f
  exact ⟨decode_eq_ok_iff id nofun nofun, _, exec_interpDone_eq f s, rfl, ⟨rfl, rfl, rfl, rfl, rfl⟩, rfl, rfl,
    fun hf => if_neg hf, fun hf => if_pos hf, hflags, hrest, fun _ => rfl, rfl, rfl, rfl⟩

end Sys2Proof.Machine

/-! SUPPORT. A settled fault at the next edge: no command is out, so the dispatcher reports it. -/

namespace Sys2Proof.Machine

/-- Outside `Complete` no command is out (R103). -/
theorem State.Inv.idle_of_ne_complete {s : State} (hinv : s.Inv) (hx : s.rxState ≠ .complete) : s.dpState = .idle := by
  cases hd : s.dpState with
  | idle => rfl
  | wait => exact absurd (hinv.dispatcher hd).1 hx

/-- The edge of a settled fault runs DISPATCH_FAULTED (R66, R95). -/
theorem step_of_faulted {s : State} (hinv : s.Inv) (hrst : s.ports.rst = false) (hx : s.rxState = .faulted) :
    step s = exec .dispatchFaulted s := by
  have hd : s.dpState = .idle := hinv.idle_of_ne_complete (by simp [hx])
  have hop : s.dispatcherOp = some .dispatchFaulted := dispatcherOp_eq_some_iff.mpr ⟨hd, hx⟩
  rw [step_eq_exec hinv.dispatcher, decodedOp_of_dispatcherOp hrst hop]

/-! ## The statements -/

/-- Settles O35. -/
theorem noStepStops : Obligations.NoStepStops :=
  fun _ hinv => hinv.exists_step

/-- Settles O50: the step keeps the invariant, which gives the fault its one flag and leaves the next edge to
DISPATCH_FAULTED. -/
theorem faultReportedAtTheNextEdge : Obligations.FaultReportedAtTheNextEdge := by
  intro s t u hinv _ hst hx hrst htu
  have htinv : t.Inv := stepKeepsTheInvariant s t hinv hst
  obtain ⟨f, hf⟩ := (htinv.row_faulted hx).exists_mask
  obtain ⟨-, -, hreport⟩ := dispatchFaultedReportsTheFault t
  obtain ⟨hemitted, hrearmed, hquiet, -, hbuf, -⟩ := of_exec hreport ((step_of_faulted htinv hrst hx).symm.trans htu)
  exact ⟨f, hf, hf ▸ hemitted, hrearmed, hbuf, hquiet⟩

end Sys2Proof.Machine

/-! SUPPORT. Edges at which nothing happens but the default writes of R101, and a reset: the block waits for a byte or for
the interpreter without a timeout, and only RESET breaks in. -/

namespace Sys2Proof.Machine

/-- `t` is `s` after `n` edges that did the default writes only: the inputs went by and the pulses fell. -/
structure State.HeldFor (s : State) (n : Nat) (t : State) : Prop where
  dispatcher : s.SameDispatcher t
  receiver : s.SameReceiver t
  buf : t.buf = s.buf
  inputs : t.inputs = s.inputs.drop n
  pulses : 1 ≤ n → t.PulsesLow

section

variable {s t : State} {n : Nat}

theorem State.heldFor_zero (s : State) : s.HeldFor 0 s :=
  ⟨⟨rfl, rfl, rfl⟩, ⟨rfl, rfl, rfl, rfl, rfl⟩, rfl, rfl, nofun⟩

/-- One edge more with the default writes only. -/
theorem State.HeldFor.tick (h : s.HeldFor n t) : s.HeldFor (n + 1) t.tick :=
  ⟨h.dispatcher, h.receiver, h.buf, by rw [State.tick_inputs, h.inputs, List.tail_drop], fun _ => ⟨rfl, rfl⟩⟩

/-- The ports after `n` held edges carry entry `n` of the inputs that were listed before them. -/
theorem State.HeldFor.ports_mem (h : s.HeldFor n t) {N : Nat} (hn : n < N) (hlen : N ≤ s.inputs.length) :
    t.ports ∈ s.inputs.take N := by
  have hlisted : t.inputs = s.inputs[n] :: s.inputs.drop (n + 1) := h.inputs.trans (List.drop_eq_getElem_cons _)
  rw [State.ports_cons hlisted]
  exact List.mem_take_iff_getElem.mpr ⟨n, by omega, rfl⟩

/-- A block that only ticks while its inputs satisfy `P` is held for as many edges as they do. -/
theorem run_of_step_tick {P : Inputs → Prop}
    (htick : ∀ t, s.SameDispatcher t → s.SameReceiver t → P t.ports → step t = .next t.tick)
    (n : Nat) (hlen : n ≤ s.inputs.length) (hP : ∀ p ∈ s.inputs.take n, P p) :
    ∃ t, Host.Core.run Sys2Proof.core n s = .next t ∧ s.HeldFor n t := by
  induction n with
  | zero => exact ⟨s, rfl, s.heldFor_zero⟩
  | succ n ih =>
    have hfirst : ∀ p ∈ s.inputs.take n, P p := fun p hp => hP p (List.take_subset_take_left _ n.le_succ hp)
    obtain ⟨t, hrun, hheld⟩ := ih (by omega) hfirst
    have hstep := htick t hheld.dispatcher hheld.receiver (hP _ (hheld.ports_mem n.lt_succ_self hlen))
    exact ⟨t.tick, (run_succ_of_run hrun).trans hstep, hheld.tick⟩

/-- Without `gc_done` a command that is out runs WAIT_HOLD (R98): the receiver, in `Complete`, takes no byte. -/
theorem step_of_wait (hd : s.dpState = .wait) (hx : s.rxState = .complete) (hrst : s.ports.rst = false)
    (hdone : s.ports.gcDone = false) : step s = .next s.tick := by
  have haccepts : s.accepts = false := by simp [State.accepts, State.rxReady, hx, RxState.receiving]
  obtain ⟨-, htwo⟩ := decode_of_not_accepts haccepts
  have hop : s.dispatcherOp = some .waitHold := dispatcherOp_eq_some_iff.mpr ⟨hd, hdone⟩
  rw [step_of_not_twoParts htwo, decodedOp_of_dispatcherOp hrst hop]
  rfl

/-- Without an offered byte a receiving block runs IDLE (R66): the dispatcher has nothing to report. -/
theorem step_of_receiving (hd : s.dpState = .idle) (hx : s.rxState.receiving = true) (hrst : s.ports.rst = false)
    (hv : s.ports.rxValid = false) : step s = .next s.tick := by
  have haccepts : s.accepts = false := by simp [State.accepts, hv]
  obtain ⟨hop, htwo⟩ := decode_of_not_accepts haccepts
  have hnone : s.dispatcherOp = none := dispatcherOp_of_receiving (fun hw => by simp [hd] at hw) hx
  have hidle : s.decodedOp = .idle := by simp [hop, hrst, hnone]
  rw [step_of_not_twoParts htwo, hidle]
  rfl

end

/-! ## The statements -/

/-- Settles O28: `rst` also holds `rx_ready` low, so that no byte is accepted (R28, R77). -/
theorem resetOverridesEverything : Obligations.ResetOverridesEverything :=
  ⟨fun s hrst => ⟨step_of_rst hrst, by simp [State.accepts, hrst]⟩,
    fun s => ⟨s.tick.clear, rfl, ⟨rfl, rfl, rfl, rfl, rfl⟩, rfl, rfl, rfl, rfl, rfl, rfl, rfl, rfl, rfl⟩⟩

/-- Settles O52: by induction on the edges, each of which is a WAIT_HOLD. -/
theorem waitHasNoTimeout : Obligations.WaitHasNoTimeout := by
  intro n s hd hx hlen hquiet
  have htick : ∀ t, s.SameDispatcher t → s.SameReceiver t → t.ports.rst = false ∧ t.ports.gcDone = false →
      step t = .next t.tick := by
    rintro t ⟨hdp, -⟩ ⟨hrx, -⟩ ⟨hrst, hdone⟩
    exact step_of_wait (hdp.trans hd) (hrx.trans hx) hrst hdone
  obtain ⟨t, hrun, hheld⟩ := run_of_step_tick (P := fun p => p.rst = false ∧ p.gcDone = false) htick n hlen hquiet
  exact ⟨t, hrun, hheld.dispatcher, hheld.receiver, hheld.buf, hheld.inputs, hheld.pulses⟩

/-- Settles O53: by induction on the edges, each of which is an IDLE edge. -/
theorem partialFrameHasNoTimeout : Obligations.PartialFrameHasNoTimeout := by
  intro n s hd hx hlen hquiet
  have htick : ∀ t, s.SameDispatcher t → s.SameReceiver t → t.ports.rst = false ∧ t.ports.rxValid = false →
      step t = .next t.tick := by
    rintro t ⟨hdp, -⟩ ⟨hrx, -⟩ ⟨hrst, hv⟩
    exact step_of_receiving (hdp.trans hd) (hrx ▸ hx) hrst hv
  obtain ⟨t, hrun, hheld⟩ := run_of_step_tick (P := fun p => p.rst = false ∧ p.rxValid = false) htick n hlen hquiet
  exact ⟨t, hrun, hheld.dispatcher, hheld.receiver, hheld.buf, hheld.inputs, hheld.pulses⟩

end Sys2Proof.Machine
